-- ==== Sys2Proof/Word.lean ====
section
/-! DEFINITION. The word types of the block and the level of the line (spec/00_scope.md R13). -/

namespace Sys2Proof

/-- A time, the accumulator, a raw word, a derived length, the response data: 32 bits, unsigned,
arithmetic modulo 2^32 (R10 `TIME_W`, `ACC_W`, `WORD_W`, `DATA_W`; R14). -/
abbrev Word := BitVec 32

/-- The host command word `cmd[15:0]` (R100). -/
abbrev Command := BitVec 16

/-- A line level: `1` is the level the source calls "high", `0` the one it calls "low" (R13). -/
inductive Level where
  | low
  | high
deriving DecidableEq, Repr

/-- The bit that stands for a level (R13). -/
def Level.bit : Level → BitVec 1
  | .low => 0#1
  | .high => 1#1

/-- The level a bit stands for (R13). -/
def Level.ofBit (b : BitVec 1) : Level :=
  if b = 1#1 then .high else .low

/-- The other level. -/
def Level.flip : Level → Level
  | .low => .high
  | .high => .low

end Sys2Proof
end

