-- ==== Sys2Proof/Syntax.lean ====
section
/-! DEFINITION. The eight operations of R101, one constructor per row of spec/opcode_table.json. -/

namespace Sys2Proof

/-- An operation with its operands (R101). The operand of a `CMD6` command is an unsigned number (R102). -/
inductive Instr where
  /-- `RESET` (R280). -/
  | reset
  /-- `EDGE level`: the line level after the transition (R152). -/
  | edge (level : Level)
  /-- `TICK` (R173). -/
  | tick
  /-- `CHECK_DATA` (R206). -/
  | checkData
  /-- `LAST_PACKET_START_TIME` (R220). -/
  | lastPacketStartTime
  /-- `SWITCH_CHANNEL c`, alias `setChannel(c)` (R137, R108). -/
  | switchChannel (c : Nat)
  /-- `SET_EXPECTED_BITS n` (R131). -/
  | setExpectedBits (n : Nat)
  /-- `SUPPRESS_POST_RX_SILENCE` (R135). -/
  | suppressPostRxSilence
deriving DecidableEq, Repr

end Sys2Proof
end

