-- ==== Sys2Proof/WellFormed.lean ====
section
/-! DEFINITION. Which operations an encoding can carry: a `CMD6` operand is `cmd[5:0]`, 0 to 63 (R102). -/

namespace Sys2Proof

/-- The operand fits the six bits `cmd[5:0]` (R100, R102). Whether it is legal is the operation's own check. -/
def fitsArg (v : Nat) : Bool := decide (v < 64)

/-- The operation has an encoding. -/
def Instr.wellFormed : Instr → Bool
  | .reset => true
  | .edge _ => true
  | .tick => true
  | .checkData => true
  | .lastPacketStartTime => true
  | .switchChannel c => fitsArg c
  | .setExpectedBits n => fitsArg n
  | .suppressPostRxSilence => true

end Sys2Proof
end

