-- ==== Sys2Proof/Decode.lean ====
section
/-! DEFINITION. The decoder of the pin vectors and of the command word (R97 to R103), the encoder (R107), and the
host's numbering of the opcode table's words. -/

namespace Sys2Proof

/-- What stands on one group of input pins in one cycle, with `cmd_valid = 1` for `cmd` (R96 to R100). -/
inductive PinWord where
  /-- `{rst}` (R99). -/
  | rst (v : BitVec 1)
  /-- `{edge_valid, edge_level}` (R97). -/
  | edge (v : BitVec 2)
  /-- `{tick_ev}` (R98). -/
  | tick (v : BitVec 1)
  /-- `cmd[15:0]` (R100). -/
  | cmd (v : Command)
deriving DecidableEq, Repr

/-- What a pin group selects. -/
inductive Decoded where
  /-- The operation it selects (R101). -/
  | op (i : Instr)
  /-- No event on these pins in this cycle (R97, R98, R99). -/
  | noEvent
  /-- A reserved command word: answered `(ERR_ILLEGAL, 0)`, no state change (R103). -/
  | reserved
deriving DecidableEq, Repr

/-- `cmd[15:12]` (R100). -/
def cmdOp (w : Command) : BitVec 4 := w.extractLsb' 12 4
/-- `cmd[11:6]`, which must be 0 (R100). -/
def cmdZero (w : Command) : BitVec 6 := w.extractLsb' 6 6
/-- `cmd[5:0]` (R100). -/
def cmdArg (w : Command) : BitVec 6 := w.extractLsb' 0 6

/-- A `CMD0` word selects its operation only with `arg = 0` (R100, R103). -/
def decodeCmd0 (w : Command) (i : Instr) : Decoded :=
  if cmdArg w = 0#6 then .op i else .reserved

/-- The command decoder, total: every word is one of the five commands or reserved (R101, R103). -/
def decodeCmd (w : Command) : Decoded :=
  if cmdZero w ≠ 0#6 then .reserved
  else if cmdOp w = 0#4 then decodeCmd0 w .checkData
  else if cmdOp w = 1#4 then decodeCmd0 w .lastPacketStartTime
  else if cmdOp w = 2#4 then .op (.switchChannel (cmdArg w).toNat)
  else if cmdOp w = 3#4 then .op (.setExpectedBits (cmdArg w).toNat)
  else if cmdOp w = 4#4 then decodeCmd0 w .suppressPostRxSilence
  else .reserved

/-- `{edge_valid, edge_level}`: `1L` is `EDGE L`, `0x` is no event (R97). -/
def decodeEdge (v : BitVec 2) : Decoded :=
  if v.extractLsb' 1 1 = 1#1 then .op (.edge (Level.ofBit (v.extractLsb' 0 1))) else .noEvent

/-- The decoder, total on every pin group. -/
def decode : PinWord → Decoded
  | .rst v => if v = 1#1 then .op .reset else .noEvent
  | .edge v => decodeEdge v
  | .tick v => if v = 1#1 then .op .tick else .noEvent
  | .cmd w => decodeCmd w

/-- The operation, if one is selected. -/
def Decoded.instr? : Decoded → Option Instr
  | .op i => some i
  | .noEvent => none
  | .reserved => none

/-- The encoder, from the "encoding" column of R107. -/
def encode : Instr → PinWord
  | .reset => .rst 1#1
  | .edge l => .edge (1#1 ++ l.bit)
  | .tick => .tick 1#1
  | .checkData => .cmd 0x0000#16
  | .lastPacketStartTime => .cmd 0x1000#16
  | .switchChannel c => .cmd (0x2000#16 + BitVec.ofNat 16 c)
  | .setExpectedBits n => .cmd (0x3000#16 + BitVec.ofNat 16 n)
  | .suppressPostRxSilence => .cmd 0x4000#16

/-- The pin group that a row of spec/opcode_table.json describes, from the row's bits alone. A row of 16 bits is a command
word. Of the rows of one byte, `EDGE` is 2 or 3. The rows `RESET` (`{rst}`) and `TICK` (`{tick_ev}`) have the same word 1 on
different pins, and the bits cannot tell them apart: the word is read as `rst`, the row the table lists first and the event
R238 handles first (DESIGN CHOICE, log 9). -/
def tablePins (nbits w : Nat) : Option PinWord :=
  if nbits = 16 then (if w < 65536 then some (.cmd (BitVec.ofNat 16 w)) else none)
  else if 0 < nbits ∧ nbits ≤ 8 then
    if w = 1 then some (.rst 1#1)
    else if w = 2 ∨ w = 3 then some (.edge (BitVec.ofNat 2 w))
    else none
  else none

/-- What the decoder reads from a word numbered as spec/opcode_table.json numbers it. -/
def decodeTableWord (nbits w : Nat) : Option Instr :=
  (tablePins nbits w).bind fun p => (decode p).instr?

end Sys2Proof
end

