-- ==== Sys2Proof/Config.lean ====
section
/-! DEFINITION. The named constants of R9 and the open parameters of spec/92_eei_decisions.md. -/

namespace Sys2Proof.Config

/-! The constants the source fixes (R9), unaudited (R12; log 18): an audit changes this table only. Every other definition takes
them by name. -/

/-- `EXPECTED_BITS_DEFAULT`. -/
def expectedBitsDefault : Nat := 17
/-- `BIT_PERIOD_US`. -/
def bitPeriodUs : Nat := 800
/-- `PACKET_LEN_OFFSET_US`. -/
def packetLenOffsetUs : Nat := 1
/-- `FRAME_PERIOD_US`. -/
def framePeriodUs : Nat := 40000
/-- `SILENCE_MARGIN_US`. -/
def silenceMarginUs : Nat := 1600
/-- `START_TICK_US`. -/
def startTickUs : BitVec 16 := 800#16
/-- `DATA_TICK_US`. -/
def dataTickUs : BitVec 16 := 400#16
/-- `BIT_THRESHOLD_US`. -/
def bitThresholdUs : Nat := 200
/-- `CH1_START_LO_US`. -/
def ch1StartLoUs : Nat := 475
/-- `CH1_START_HI_US`. -/
def ch1StartHiUs : Nat := 625
/-- `CH2_START_LO_US`. -/
def ch2StartLoUs : Nat := 175
/-- `CH2_START_HI_US`. -/
def ch2StartHiUs : Nat := 325
/-- `WORD_W`: the width of one raw word; raw positions from here on are in the high word. -/
abbrev wordW : Nat := 32
/-- `NUM_RAW_WORDS`: how many raw words hold a sample. -/
abbrev numRawWords : Nat := 2

/-- `MAX_EXPECTED_BITS`: two raw bits for each data bit fill the raw words (R10, R11). -/
def maxExpectedBits : Nat := numRawWords * wordW / 2

/-- One raw word (R21). -/
abbrev RawWord := BitVec wordW
/-- `rawWords[0]`, the low word, and `rawWords[1]`, the high word (R21, R62). -/
abbrev RawWords := Vector RawWord numRawWords

/-- The parameters that R10 and spec/92_eei_decisions.md leave OPEN: "A model takes these as arguments".
They are arguments of the machine, held in its state and written by no step (DESIGN CHOICE, safe, log 2).
`TIME_W` is fixed at 32 and `TICK_JITTER_US` is any tick time an environment drives (log 13). -/
structure Params where
  /-- `WINDOW_CLOSED`: the start window includes its bounds (D9, U5). -/
  windowClosed : Bool
  /-- `SUPPRESS_STICKY`: a suppression survives `SET_EXPECTED_BITS` (D10, U11). -/
  suppressSticky : Bool
  /-- `EDGE_BEFORE_TICK`: order of an `EDGE` and a `TICK` of one cycle (D15, U6). -/
  edgeBeforeTick : Bool
  /-- `CHANNEL_RESET` (D8). -/
  channelReset : BitVec 2
  /-- The value `RESET` gives `referenceTime` (D19). -/
  referenceTimeReset : Word
  /-- The value `RESET` gives `packetStartTime` (D19, U7). -/
  packetStartTimeReset : Word
deriving DecidableEq, Repr

/-- The values R10 and R38 give the open parameters; every test vector uses them. -/
def Params.spec : Params where
  windowClosed := true
  suppressSticky := false
  edgeBeforeTick := true
  channelReset := 1#2
  referenceTimeReset := 0#32
  packetStartTimeReset := 0#32

/-- A setting a model may be given: `CHANNEL_RESET` names a channel (R32). -/
def Params.legal (p : Params) : Bool :=
  p.channelReset == 1#2 || p.channelReset == 2#2

end Sys2Proof.Config
end

