-- ==== Sys2Proof/Machine/Operands.lean ====
section
/-! DEFINITION. What operands and register values stand for: legality, the derived configuration values (R132), the arming
count (R154), the start window (R174), raw positions (R92), the pairing (R203). -/

namespace Sys2Proof.Machine

open Sys2Proof.Config

/-- Legal operands of `SWITCH_CHANNEL` (R137). -/
def legalChannel (c : Nat) : Bool := c == 1 || c == 2

/-- Legal operands of `SET_EXPECTED_BITS` (R134). -/
def legalExpectedBits (n : Nat) : Bool := decide (1 ≤ n) && decide (n ≤ maxExpectedBits)

/-- `packetLengthMicros` for `n` data bits (R132). -/
def packetLength (n : Nat) : Word :=
  BitVec.ofNat 32 (bitPeriodUs * n + packetLenOffsetUs)

/-- The formula value of `postRxSilenceMicros` for `n` data bits (R132). -/
def postRxSilence (n : Nat) : Word :=
  BitVec.ofNat 32 framePeriodUs - packetLength n - BitVec.ofNat 32 silenceMarginUs

/-- What `SET_EXPECTED_BITS` puts in `postRxSilenceMicros`: the formula value, last writer wins (R136). In the other reading
(`SUPPRESS_STICKY`, U11) a suppression in force, which is the register holding 0, is kept (DEDUCED, log 11). -/
def recomputedSilence (p : Params) (held : Word) (n : Nat) : Word :=
  if p.suppressSticky && held == 0#32 then 0#32 else postRxSilence n

/-- The count that the first tick leaves in `bitCountdown`: `2·expectedBits` (R173). -/
def slotCount (n : BitVec 6) : BitVec 7 := BitVec.ofNat 7 (2 * n.toNat)

/-- The count that arming loads: `2·expectedBits + 1` (R154). -/
def armCount (n : BitVec 6) : BitVec 7 := BitVec.ofNat 7 (2 * n.toNat + 1)

/-- `lo` to `hi` with or without its bounds (R174, D9). -/
def between (closed : Bool) (lo hi h : Nat) : Bool :=
  if closed then decide (lo ≤ h) && decide (h ≤ hi) else decide (lo < h) && decide (h < hi)

/-- `inWindow(channel, h)` (R174); `channel` holds no value but 1 and 2 (R32), and any other has no window (log 7). -/
def inWindow (closed : Bool) (channel : BitVec 2) (h : Word) : Bool :=
  if channel = 1#2 then between closed ch1StartLoUs ch1StartHiUs h.toNat
  else if channel = 2#2 then between closed ch2StartLoUs ch2StartHiUs h.toNat
  else false

/-- The raw bit of a slot with high time `h` (R177). -/
def classify (h : Word) : Bool := decide (bitThresholdUs < h.toNat)

/-- Assignment of one bit of a raw word (R178). -/
def assignBit (w : RawWord) (p : Nat) (b : Bool) : RawWord :=
  if b then w ||| BitVec.twoPow wordW p else w &&& ~~~(BitVec.twoPow wordW p)

/-- `raw(p)`: the raw bit at raw position `p`, bit `p` of the words laid end to end, the low word first (R92, R203); 0 past the
last word (log 7). -/
def rawBit (ws : RawWords) (p : Nat) : Bool :=
  if h : p / wordW < numRawWords then ws[p / wordW].getLsbD (p % wordW) else false

/-- The words with raw position `p` assigned: the low word for positions below `WORD_W`, the high word from there on (R178, R92);
a position past the last word is dropped (log 7). -/
def assignRaw (ws : RawWords) (p : Nat) (b : Bool) : RawWords :=
  if h : p / wordW < numRawWords then ws.set (p / wordW) (assignBit ws[p / wordW] (p % wordW) b) else ws

/-- The pair code (R90): first half-slot, second half-slot. -/
def pairBit : Bool → Bool → Option Bool
  | true, false => some true
  | false, true => some false
  | false, false => none
  | true, true => none

/-- The pairing loop over decoded bits `n − 1` down to 0, from the value assembled so far; none is an invalid packet (R203,
R204). -/
def decodePairs (ws : RawWords) : Nat → Word → Option Word
  | 0, v => some v
  | j + 1, v =>
    match pairBit (rawBit ws (2 * j + 1)) (rawBit ws (2 * j)) with
    | some d => decodePairs ws j ((v <<< 1) ||| (BitVec.ofBool d).setWidth 32)
    | none => none

end Sys2Proof.Machine
end

