-- ==== Sys2Proof/Machine/State.lean ====
section
/-! DEFINITION. The state of the block (R20), of the reference platform around it (R263 to R265), the pins, the status
codes (R104), and the state after reset (R38). Plain data. -/

namespace Sys2Proof.Machine

open Sys2Proof.Config

/-- The status of a response (R104, R230). -/
inductive Status where
  | ok
  | noData
  | invalid
  | errIllegal
  | errBusy
deriving DecidableEq, Repr

/-- The code on `rsp_status`; 5 to 7 are never produced (R104). -/
def Status.code : Status → BitVec 3
  | .ok => 0#3
  | .noData => 1#3
  | .invalid => 2#3
  | .errIllegal => 3#3
  | .errBusy => 4#3

/-- `rsp_status` and `rsp_data` of a cycle with `rsp_valid = 1` (R104). -/
structure Response where
  status : Status
  data : Word
deriving DecidableEq, Repr

/-- The `ts_*` output pins of one cycle (R96, R110): `setInterval` is `ts_set` with the `ts_interval` it makes
meaningful. -/
structure TsActions where
  resetCounter : Bool
  setInterval : Option (BitVec 16)
  enable : Bool
  disable : Bool
deriving DecidableEq, Repr

/-- No action asserted. -/
def TsActions.none : TsActions := ⟨false, .none, false, false⟩

/-- The reference Tick Source (R264). -/
structure TickSource where
  /-- `ts_enabled`. -/
  enabled : Bool
  /-- `ts_interval_r`. -/
  interval : BitVec 16
  /-- `ts_counter`. -/
  counter : BitVec 16
deriving DecidableEq, Repr

/-- The reset values of R264. -/
def TickSource.atReset : TickSource := ⟨false, 0#16, 0#16⟩

/-- The input pins of one cycle (R96). -/
structure InPins where
  now : Word
  /-- `{rst}`. -/
  rst : BitVec 1
  /-- `{edge_valid, edge_level}`. -/
  edge : BitVec 2
  /-- `{tick_ev}`. -/
  tick : BitVec 1
  cmdValid : Bool
  cmd : Command
deriving DecidableEq, Repr

/-- What the outside world does in one cycle (log 4). -/
inductive CycleIn where
  /-- Any Clock, Edge Source, Tick Source and host drive the block's pins (R96). -/
  | pins (p : InPins)
  /-- A cycle of the reference platform: `ir_in`, `rst` and the host's command; the platform makes `now`, the edge and the
  tick (R263 to R265). -/
  | line (rst : Bool) (irIn : Level) (cmd : Option Command)
deriving DecidableEq, Repr

/-- The machine. The first eleven fields are the block's eleven state elements (R20). -/
@[ext]
structure State where
  /-- `expectedBits` (R29). -/
  expectedBits : BitVec 6
  /-- `packetLengthMicros` (R30). -/
  packetLengthMicros : Word
  /-- `postRxSilenceMicros` (R31). -/
  postRxSilenceMicros : Word
  /-- `channel` (R32). -/
  channel : BitVec 2
  /-- `bitCountdown` (R25). -/
  bitCountdown : BitVec 7
  /-- `highTimeAccumulator` (R22). -/
  highTimeAccumulator : Word
  /-- `referenceTime` (R23). -/
  referenceTime : Word
  /-- `lineLevel` (R28). -/
  lineLevel : Level
  /-- `rawWords`, low word then high word (R21). -/
  rawWords : RawWords
  /-- `packetReadyFlag` (R27). -/
  packetReadyFlag : Bool
  /-- `packetStartTime` (R24). -/
  packetStartTime : Word
  /-- The Clock's value in the current cycle (R250, R263 (b)). -/
  now : Word
  /-- The reference Tick Source (R264). -/
  tickSource : TickSource
  /-- `ir_prev` of the reference Edge Source (R265). -/
  irPrev : Level
  /-- The `ts_*` outputs of the latest cycle (R96, R110; log 3). -/
  tsActions : TsActions
  /-- The `rsp_*` outputs of the latest cycle; none is `rsp_valid = 0` (R96, R104; log 3). -/
  response : Option Response
  /-- The open parameters; no step writes them (log 2). -/
  params : Params
  /-- The coming cycles of the outside world, oldest first (log 1). -/
  inputs : List CycleIn
deriving DecidableEq, Repr

/-- Why the machine stops. The spec gives the block no trap and no stuck state (R19 item 5, R240; "Nothing in the block is
`stuck`"), so there is no fault: every failure is the status of a response in a next state (log 17). -/
inductive Fault where
deriving DecidableEq, Repr

/-- Why an operation has no meaning. -/
inductive Refusal where
  /-- Raised by an arm of exec whose operation has no meaning yet; safe. No arm does. -/
  | notModelled (mnemonic : String)
deriving DecidableEq, Repr

/-- The machine after the reset cycle: the registers as R38, the platform as R263 to R265, the outputs of a reset cycle
(R280: `TS.disable()`, no response), parameters as R10, nothing to come on the pins. -/
def State.reset : State where
  expectedBits := BitVec.ofNat 6 expectedBitsDefault
  packetLengthMicros := packetLength expectedBitsDefault
  postRxSilenceMicros := postRxSilence expectedBitsDefault
  channel := Params.spec.channelReset
  bitCountdown := 0#7
  highTimeAccumulator := 0#32
  referenceTime := Params.spec.referenceTimeReset
  lineLevel := .high
  rawWords := Vector.replicate numRawWords 0
  packetReadyFlag := false
  packetStartTime := Params.spec.packetStartTimeReset
  now := 0#32
  tickSource := TickSource.atReset
  irPrev := .high
  tsActions := ⟨false, none, false, true⟩
  response := none
  params := Params.spec
  inputs := []

end Sys2Proof.Machine
end

