-- ==== Sys2Proof/Machine/Flags.lean ====
section
/-! DEFINITION. The block's two flags (R27, R28); there are no condition codes (R40). -/

namespace Sys2Proof.Machine

/-- Write of `lineLevel` (R28, R151). -/
def State.setLineLevel (s : State) (l : Level) : State := { s with lineLevel := l }

/-- Write of `packetReadyFlag`: set by the publishing `TICK`, cleared by `CHECK_DATA` (R27). -/
def State.setReadyFlag (s : State) (b : Bool) : State := { s with packetReadyFlag := b }

end Sys2Proof.Machine
end

