-- ==== Sys2Proof/Machine/Ops.lean ====
section
/-! DEFINITION. The named operations over the registers and the output pins, shared by the meanings; the failure response
(R230) and the abort (R240), the block's counterparts of an exception; the register part of reset (R280). -/

namespace Sys2Proof.Machine

open Sys2Proof.Config

/-! The four actions on the Tick Source (R15, R254): asserted on the `ts_*` pins of this cycle. -/

/-- `TS.resetCounter()`. -/
def State.tsResetCounter (s : State) : State :=
  { s with tsActions := { s.tsActions with resetCounter := true } }

/-- `TS.setInterval(v)`; the later of two in one cycle stands (log 12). -/
def State.tsSetInterval (s : State) (v : BitVec 16) : State :=
  { s with tsActions := { s.tsActions with setInterval := some v } }

/-- `TS.enable()`. -/
def State.tsEnable (s : State) : State :=
  { s with tsActions := { s.tsActions with enable := true } }

/-- `TS.disable()`. -/
def State.tsDisable (s : State) : State :=
  { s with tsActions := { s.tsActions with disable := true } }

/-! Register writes. -/

/-- `elapsed = now − referenceTime` modulo 2^32 (R151, R172). -/
def State.elapsed (s : State) : Word := s.now - s.referenceTime

/-- `referenceTime <- v` (R151, R172, R176). -/
def State.setReferenceTime (s : State) (v : Word) : State := { s with referenceTime := v }

/-- `highTimeAccumulator <- v` (R153, R172, R179). -/
def State.setAccumulator (s : State) (v : Word) : State := { s with highTimeAccumulator := v }

/-- `bitCountdown <- v` (R26). -/
def State.setCountdown (s : State) (v : BitVec 7) : State := { s with bitCountdown := v }

/-- `packetStartTime <- v` (R180). -/
def State.setPacketStart (s : State) (v : Word) : State := { s with packetStartTime := v }

/-- `rawWords[w][p] <- b` at raw position `p` (R178, R92). -/
def State.writeRaw (s : State) (p : Nat) (b : Bool) : State :=
  { s with rawWords := assignRaw s.rawWords p b }

/-- `raw(p)` of the stored sample (R92). -/
def State.raw (s : State) (p : Nat) : Bool := rawBit s.rawWords p

/-- The three registers `SET_EXPECTED_BITS` writes together (R131). -/
def State.setBitCount (s : State) (n : Nat) : State :=
  { s with
    expectedBits := BitVec.ofNat 6 n
    packetLengthMicros := packetLength n
    postRxSilenceMicros := recomputedSilence s.params s.postRxSilenceMicros n }

/-- `postRxSilenceMicros <- v` (R135). -/
def State.setSilence (s : State) (v : Word) : State := { s with postRxSilenceMicros := v }

/-- `channel <- c` (R137). -/
def State.setChannel (s : State) (c : BitVec 2) : State := { s with channel := c }

/-! The response (R15, R104). -/

/-- `return (Status, data)`: one response in the command's own cycle (R104). -/
def State.respond (s : State) (st : Status) (d : Word) : State :=
  { s with response := some ⟨st, d⟩ }

/-- `raise <Status>(0)`: the response of a command that fails; the data of every status but `OK` is 0 (R15, R104, R230). -/
def State.raise (s : State) (st : Status) : State := s.respond st 0#32

/-! Steps of the Edge Watcher and the Bit Sampler. -/

/-- Add high time to the current slot, modulo 2^32 (R22, R153, R172). -/
def State.addHighTime (s : State) (t : Word) : State := s.setAccumulator (s.highTimeAccumulator + t)

/-- Arming: the three Tick Source actions in order, and the full count (R154). Nothing is cleared (R158). -/
def State.arm (s : State) : State :=
  (((s.tsResetCounter).tsSetInterval startTickUs).tsEnable).setCountdown (armCount s.expectedBits)

/-- The abort of a capture, "the one transfer of control that resembles a trap" (R176, R240): idle, accumulator cleared, Tick
Source disabled, `referenceTime` rewound by `postRxSilenceMicros`. -/
def State.abortCapture (s : State) : State :=
  (((s.setCountdown 0#7).setAccumulator 0#32).tsDisable).setReferenceTime (s.referenceTime - s.postRxSilenceMicros)

/-- First tick, window passed (R175). -/
def State.acceptStart (s : State) : State :=
  (s.setAccumulator 0#32).tsSetInterval dataTickUs

/-- Classify the closing slot and write its raw bit at the slot index, then clear the accumulator (R177 to R179). -/
def State.closeSlot (s : State) : State :=
  (s.writeRaw s.bitCountdown.toNat (classify s.highTimeAccumulator)).setAccumulator 0#32

/-- Publication (R180): Tick Source disabled, flag set whatever it was, start time back-computed. -/
def State.publish (s : State) : State :=
  ((s.tsDisable).setReadyFlag true).setPacketStart (s.referenceTime - s.packetLengthMicros)

/-- The register writes of `RESET` and its Tick Source action (R280, R38); the values D8 and D19 leave open come from the
parameters. -/
def State.resetRegisters (s : State) : State :=
  { s with
    expectedBits := BitVec.ofNat 6 expectedBitsDefault
    packetLengthMicros := packetLength expectedBitsDefault
    postRxSilenceMicros := postRxSilence expectedBitsDefault
    channel := s.params.channelReset
    bitCountdown := 0#7
    highTimeAccumulator := 0#32
    referenceTime := s.params.referenceTimeReset
    lineLevel := .high
    rawWords := Vector.replicate numRawWords 0
    packetReadyFlag := false
    packetStartTime := s.params.packetStartTimeReset
    tsActions := { s.tsActions with disable := true } }

end Sys2Proof.Machine
end

