-- ==== Sys2Proof/Machine/Accessors.lean ====
section
/-! DEFINITION. The accessor (spec/44_accessors.md). -/

namespace Sys2Proof.Machine

/-- `LAST_PACKET_START_TIME` (R220). -/
def execLastPacketStartTime (s : State) : Host.Outcome State Fault Refusal :=
  .next (s.respond .ok s.packetStartTime)

end Sys2Proof.Machine
end

