-- ==== Sys2Proof/Machine/BitSampler.lean ====
section
/-! DEFINITION. The Bit Sampler: `TICK` (spec/42_bit_sampler.md). -/

namespace Sys2Proof.Machine

/-- The prologue of a `TICK` in a capture (R172). -/
def State.observeTick (s : State) : State :=
  let t := (s.setCountdown (s.bitCountdown - 1#7)).setReferenceTime s.now
  if s.lineLevel = .high then t.addHighTime s.elapsed else t

/-- The first tick after arming, after the prologue (R173, R174): pass (R175) or abort (R176). -/
def State.startTick (s : State) : State :=
  if inWindow s.params.windowClosed s.channel s.highTimeAccumulator then s.acceptStart else s.abortCapture

/-- Every later tick, after the prologue (R177 to R179); the last one publishes as well (R180). -/
def State.slotTick (s : State) : State :=
  let t := s.closeSlot
  if t.bitCountdown = 0#7 then t.publish else t

/-- `TICK` (R173); ignored while idle (R171). -/
def execTick (s : State) : Host.Outcome State Fault Refusal :=
  if s.bitCountdown = 0#7 then .next s
  else
    let t := s.observeTick
    if t.bitCountdown = slotCount s.expectedBits then .next t.startTick else .next t.slotTick

end Sys2Proof.Machine
end

