-- ==== Sys2Proof/Machine/Configuration.lean ====
section
/-! DEFINITION. The configuration commands (spec/40_configuration.md). -/

namespace Sys2Proof.Machine

/-- `SET_EXPECTED_BITS n` (R131): the operand is checked before the phase (R134, R239). -/
def execSetExpectedBits (n : Nat) (s : State) : Host.Outcome State Fault Refusal :=
  if legalExpectedBits n = false then .next (s.raise .errIllegal)
  else if s.bitCountdown ≠ 0#7 then .next (s.raise .errBusy)
  else .next ((s.setBitCount n).respond .ok 0#32)

/-- `SUPPRESS_POST_RX_SILENCE` (R135), accepted in every phase. -/
def execSuppressPostRxSilence (s : State) : Host.Outcome State Fault Refusal :=
  .next ((s.setSilence 0#32).respond .ok 0#32)

/-- `SWITCH_CHANNEL c` (R137), accepted in every phase. -/
def execSwitchChannel (c : Nat) (s : State) : Host.Outcome State Fault Refusal :=
  if legalChannel c then .next ((s.setChannel (BitVec.ofNat 2 c)).respond .ok 0#32)
  else .next (s.raise .errIllegal)

end Sys2Proof.Machine
end

