-- ==== Sys2Proof/Machine/EdgeWatcher.lean ====
section
/-! DEFINITION. The Edge Watcher: `EDGE` (spec/41_edge_watcher.md). -/

namespace Sys2Proof.Machine

/-- The prologue of every `EDGE` (R151). -/
def State.observeEdge (s : State) (level : Level) : State :=
  (s.setReferenceTime s.now).setLineLevel level

/-- `EDGE level` (R152): branch A in a capture (R153), branch B arms (R154), else nothing beyond the prologue (R155). The
direction is the operand's alone (R159). -/
def execEdge (level : Level) (s : State) : Host.Outcome State Fault Refusal :=
  let t := s.observeEdge level
  if s.bitCountdown ≠ 0#7 ∧ level = .low then .next (t.addHighTime s.elapsed)
  else if level = .low ∧ s.postRxSilenceMicros < s.elapsed then .next t.arm
  else .next t

end Sys2Proof.Machine
end

