-- ==== Sys2Proof/Machine/PacketDecoder.lean ====
section
/-! DEFINITION. The Packet Decoder: `CHECK_DATA` (spec/43_packet_decoder.md). -/

namespace Sys2Proof.Machine

/-- The answer to a sample (R203 to R205): the pairs of the `expectedBits` in force at the query (R208). -/
def State.decodeSample (s : State) : State :=
  match decodePairs s.rawWords s.expectedBits.toNat 0#32 with
  | some v => s.respond .ok v
  | none => s.raise .invalid

/-- `CHECK_DATA` (R206): the flag is cleared before the pairs are looked at (R202). -/
def execCheckData (s : State) : Host.Outcome State Fault Refusal :=
  if s.packetReadyFlag then .next (s.setReadyFlag false).decodeSample else .next (s.raise .noData)

end Sys2Proof.Machine
end

