-- ==== Sys2Proof/Machine/Reset.lean ====
section
/-! DEFINITION. `RESET` (spec/70_reset_and_hazards.md R280). -/

namespace Sys2Proof.Machine

/-- `RESET` (R280): no response, does not read `now`. -/
def execReset (s : State) : Host.Outcome State Fault Refusal :=
  .next s.resetRegisters

end Sys2Proof.Machine
end

