-- ==== Sys2Proof/Machine/Dispatch.lean ====
section
/-! DEFINITION. One operation, by its constructor. -/

namespace Sys2Proof.Machine

def exec (i : Instr) (s : State) : Host.Outcome State Fault Refusal :=
  match i with
  | .reset => Sys2Proof.Machine.execReset s
  | .edge level => Sys2Proof.Machine.execEdge level s
  | .tick => Sys2Proof.Machine.execTick s
  | .checkData => Sys2Proof.Machine.execCheckData s
  | .lastPacketStartTime => Sys2Proof.Machine.execLastPacketStartTime s
  | .switchChannel c => Sys2Proof.Machine.execSwitchChannel c s
  | .setExpectedBits n => Sys2Proof.Machine.execSetExpectedBits n s
  | .suppressPostRxSilence => Sys2Proof.Machine.execSuppressPostRxSilence s

end Sys2Proof.Machine
end

