-- ==== Sys2Proof/Machine/Platform.lean ====
section
/-! DEFINITION. The reference platform (R263 to R265) and the pins of a cycle: how the block's input pins come about, and
what the Tick Source does with the block's output pins. -/

namespace Sys2Proof.Machine

open Sys2Proof.Config

/-! The reference Tick Source (R264). -/

/-- `tick_ev` of this cycle: the incremented counter has reached the interval. -/
def TickSource.ticks (ts : TickSource) : Bool :=
  ts.enabled && decide (ts.interval ≤ ts.counter + 1#16)

/-- The count at the start of a cycle. -/
def TickSource.count (ts : TickSource) : TickSource :=
  if ts.enabled then { ts with counter := if ts.ticks then 0#16 else ts.counter + 1#16 } else ts

/-- The actions asserted in this cycle, applied at its end in the order reset, set interval, enable, disable (R254). -/
def TickSource.apply (ts : TickSource) (a : TsActions) : TickSource :=
  let t1 := if a.resetCounter then { ts with counter := 0#16 } else ts
  let t2 := match a.setInterval with
    | some v => { t1 with interval := v }
    | none => t1
  let t3 := if a.enable then { t2 with enabled := true } else t2
  if a.disable then { t3 with enabled := false } else t3

/-! The reference Edge Source (R265). -/

/-- `{edge_valid, edge_level}` for a line level against `ir_prev`. -/
def edgePins (prev irIn : Level) : BitVec 2 :=
  (if irIn = prev then 0#1 else 1#1) ++ irIn.bit

/-! The pins of a cycle. -/

/-- A cycle with no event on any pin. -/
def InPins.quiet (now : Word) : InPins := ⟨now, 0#1, 0#2, 0#1, false, 0#16⟩

/-- A cycle with one pin group driven and the others quiet. -/
def InPins.only (now : Word) : PinWord → InPins
  | .rst v => { InPins.quiet now with rst := v }
  | .edge v => { InPins.quiet now with edge := v }
  | .tick v => { InPins.quiet now with tick := v }
  | .cmd w => { InPins.quiet now with cmdValid := true, cmd := w }

/-- What the outside world does in the coming cycle. With nothing given, the reference platform runs on with a silent host and
the line at the level of `ir_prev`, so that no `EDGE` comes. The spec says nothing of `ir_in` there: after a cycle with `rst = 1`,
which leaves `ir_prev` high (R265), this takes the line as high even if `ir_in` was low in that cycle (DESIGN CHOICE, log 14). -/
def State.nextInput (s : State) : CycleIn :=
  match s.inputs with
  | [] => .line false s.irPrev none
  | c :: _ => c

/-- The block's input pins in the coming cycle (R96): as driven, or made by the reference platform (R263 (b), (e), R264,
R265; during reset no edge is delivered). -/
def State.samplePins (s : State) : InPins :=
  match s.nextInput with
  | .pins p => p
  | .line rst irIn cmd =>
    { now := s.now + 1#32
      rst := BitVec.ofBool rst
      edge := if rst then 0#2 else edgePins s.irPrev irIn
      tick := BitVec.ofBool s.tickSource.ticks
      cmdValid := cmd.isSome
      cmd := cmd.getD 0#16 }

/-- The Tick Source after its count: it counts in the cycles of the reference platform (R264), not where the pins are driven
from outside (log 4). -/
def State.countedTickSource (s : State) : TickSource :=
  match s.nextInput with
  | .pins _ => s.tickSource
  | .line _ _ _ => s.tickSource.count

/-- `ir_prev` after the cycle (R265): high in reset, else the level of the line, which a driven `EDGE` carries (log 4). -/
def State.nextIrPrev (s : State) : Level :=
  match s.nextInput with
  | .pins p =>
    if p.rst = 1#1 then .high
    else match decode (.edge p.edge) with
      | .op (.edge l) => l
      | _ => s.irPrev
  | .line rst irIn _ => if rst then .high else irIn

/-- The start of a cycle: the inputs are sampled, the outputs are those of no event (R96, R104). -/
def State.beginCycle (s : State) : State :=
  { s with
    now := s.samplePins.now
    tickSource := s.countedTickSource
    irPrev := s.nextIrPrev
    tsActions := TsActions.none
    response := none
    inputs := s.inputs.tail }

/-- The end of a cycle: the Tick Source takes the actions of the block (R254, R263 (e)); `rst` resets it (R264, log 6). -/
def State.endCycle (s : State) (rst : BitVec 1) : State :=
  { s with tickSource := if rst = 1#1 then TickSource.atReset else s.tickSource.apply s.tsActions }

/-- `rsp_valid`, `rsp_status`, `rsp_data` of the latest cycle; with no response all are 0 (R104). -/
def State.responsePins (s : State) : BitVec 1 × BitVec 3 × Word :=
  match s.response with
  | some r => (1#1, r.status.code, r.data)
  | none => (0#1, 0#3, 0#32)

end Sys2Proof.Machine
end

