-- ==== Sys2Proof/Machine/Cycle.lean ====
section
/-! DEFINITION. One clock cycle: the events of the sampled pins, one atomic operation after the other (R238). -/

namespace Sys2Proof.Machine

/-- One decoded pin group. A reserved command word changes no register and answers `(ERR_ILLEGAL, 0)` (R103). -/
def handle (d : Decoded) (s : State) : Host.Outcome State Fault Refusal :=
  match d with
  | .op i => exec i s
  | .noEvent => .next s
  | .reserved => .next (s.raise .errIllegal)

/-- The operations of one cycle, each on the state the one before left (R66, R69). -/
def handleAll : List Decoded → State → Host.Outcome State Fault Refusal
  | [], s => .next s
  | d :: ds, s =>
    match handle d s with
    | .next t => handleAll ds t
    | .fault f => .fault f
    | .refused r => .refused r

/-- The command of a cycle; `cmd` is ignored while `cmd_valid = 0` (R103). -/
def InPins.command (p : InPins) : Decoded :=
  if p.cmdValid then decode (.cmd p.cmd) else .noEvent

/-- The events of a cycle in their order (R238): `RESET` discards the others; else `EDGE`, `TICK`, the command. With
`EDGE_BEFORE_TICK` false the first two change places (D15). -/
def InPins.events (p : InPins) (edgeBeforeTick : Bool) : List Decoded :=
  match decode (.rst p.rst) with
  | .op i => [.op i]
  | _ =>
    if edgeBeforeTick then [decode (.edge p.edge), decode (.tick p.tick), p.command]
    else [decode (.tick p.tick), decode (.edge p.edge), p.command]

/-- One clock cycle (R96, R238, R263 (e)). -/
def cycle (s : State) : Host.Outcome State Fault Refusal :=
  match handleAll (s.samplePins.events s.params.edgeBeforeTick) s.beginCycle with
  | .next t => .next (t.endCycle s.samplePins.rst)
  | .fault f => .fault f
  | .refused r => .refused r

/-- The state whose coming cycle drives one pin group, one microsecond later, and nothing else (log 10). -/
def State.withPins (s : State) (w : Option PinWord) : State :=
  let p := match w with
    | some w => InPins.only (s.now + 1#32) w
    | none => InPins.quiet (s.now + 1#32)
  { s with inputs := .pins p :: s.inputs }

end Sys2Proof.Machine
end

