-- ==== Sys2Proof/Machine/Step.lean ====
section
/-! DEFINITION. The step of the machine: one clock cycle (log 1). -/

namespace Sys2Proof.Machine

/-- One step is one clock cycle (R96, R310). -/
def step (s : State) : Host.Outcome State Fault Refusal := cycle s

/-- The state whose very next cycle carries the operation of a word of spec/opcode_table.json and no other event (log 10). -/
def State.withFetchWord (s : State) (nbits w : Nat) : State := s.withPins (tablePins nbits w)

end Sys2Proof.Machine
end

