-- ==== Sys2Proof/Safety.lean ====
section
/-! DEFINITION. What claims say of a run: the phase (R35), the invariants (R31, R32, R34), the groups of registers that an
operation must leave alone (R36), and runs of several operations. -/

namespace Sys2Proof.Machine

/-- The phases of a capture (R35). -/
inductive Phase where
  | idle
  | armed
  | sampling
deriving DecidableEq, Repr

/-- The phase, a function of `bitCountdown` and `expectedBits` alone (R35). -/
def State.phase (s : State) : Phase :=
  if s.bitCountdown = 0#7 then .idle
  else if s.bitCountdown = armCount s.expectedBits then .armed
  else .sampling

/-- The invariants of the registers (R34 (a) to (d), R31, R32), under a legal setting of the parameters. -/
structure State.RegInv (s : State) : Prop where
  /-- R34 (a). -/
  idle_clear : s.bitCountdown = 0#7 → s.highTimeAccumulator = 0#32
  /-- R34 (b). -/
  countdown_le : s.bitCountdown.toNat ≤ 2 * s.expectedBits.toNat + 1
  /-- R34 (c). -/
  bits_pos : 1 ≤ s.expectedBits.toNat
  /-- R34 (c). -/
  bits_le : s.expectedBits.toNat ≤ 32
  /-- R34 (c). -/
  channel_legal : s.channel = 1#2 ∨ s.channel = 2#2
  /-- R34 (d). -/
  length_eq : s.packetLengthMicros.toNat = 800 * s.expectedBits.toNat + 1
  /-- R31. -/
  silence_eq : s.postRxSilenceMicros = 0#32 ∨ s.postRxSilenceMicros.toNat = 38399 - 800 * s.expectedBits.toNat
  /-- D8: `CHANNEL_RESET` names a channel. -/
  params_legal : s.params.legal = true

/-- The invariant of the machine between two cycles: the registers', and the Tick Source is enabled exactly in a capture (R34
(e), R236). -/
structure State.Inv (s : State) : Prop where
  regs : s.RegInv
  /-- R34 (e). -/
  ticking : s.tickSource.enabled = true ↔ s.bitCountdown ≠ 0#7

/-- The Configuration registers agree (R20). -/
def State.SameConfiguration (s t : State) : Prop :=
  t.expectedBits = s.expectedBits ∧ t.packetLengthMicros = s.packetLengthMicros ∧
    t.postRxSilenceMicros = s.postRxSilenceMicros ∧ t.channel = s.channel

/-- The in-progress fields agree (R36). -/
def State.SameInProgress (s t : State) : Prop :=
  t.bitCountdown = s.bitCountdown ∧ t.highTimeAccumulator = s.highTimeAccumulator ∧
    t.referenceTime = s.referenceTime ∧ t.lineLevel = s.lineLevel

/-- The published sample agrees (R36). -/
def State.SamePublished (s t : State) : Prop :=
  t.rawWords = s.rawWords ∧ t.packetReadyFlag = s.packetReadyFlag ∧
    t.packetStartTime = s.packetStartTime

/-- What no operation of the block writes: the Clock, the platform, the parameters, the inputs to come. -/
def State.SameEnvironment (s t : State) : Prop :=
  t.now = s.now ∧ t.tickSource = s.tickSource ∧ t.irPrev = s.irPrev ∧ t.params = s.params ∧ t.inputs = s.inputs

/-- The twelve registers agree. -/
def State.SameRegisters (s t : State) : Prop :=
  s.SameConfiguration t ∧ s.SameInProgress t ∧ s.SamePublished t

/-- The operation is one of the five host commands (R101). -/
def isHostCommand : Instr → Bool
  | .reset => false
  | .edge _ => false
  | .tick => false
  | .checkData => true
  | .lastPacketStartTime => true
  | .switchChannel _ => true
  | .setExpectedBits _ => true
  | .suppressPostRxSilence => true

/-- The pins of a cycle carry no event: no reset, no edge whatever `edge_level` is, no tick, no command whatever `cmd` is (R97 to
R99, R103). -/
def InPins.CarryNoEvent (p : InPins) : Prop :=
  p.rst = 0#1 ∧ decode (.edge p.edge) = .noEvent ∧ p.tick = 0#1 ∧ p.command = .noEvent

/-- Operations one after the other, each at its own time (R8, R109). -/
def runTimed : List (Word × Instr) → State → Host.Outcome State Fault Refusal
  | [], s => .next s
  | (t, i) :: rest, s =>
    match exec i { s with now := t } with
    | .next s' => runTimed rest s'
    | .fault f => .fault f
    | .refused r => .refused r

/-- No operation of the list is `RESET`. -/
def noReset (ops : List (Word × Instr)) : Prop := ∀ o ∈ ops, o.2 ≠ .reset

/-- No operation of the list is `TICK`. -/
def noTick (ops : List (Word × Instr)) : Prop := ∀ o ∈ ops, o.2 ≠ .tick

/-- A `TICK` in this state publishes (R180). -/
def State.publishesAtTick (s : State) : Prop := s.bitCountdown = 1#7 ∧ s.expectedBits ≠ 0#6

/-- No `TICK` of the run publishes: no capture completes in it. -/
def noPublication : List (Word × Instr) → State → Prop
  | [], _ => True
  | (t, i) :: rest, s =>
    ¬ (i = .tick ∧ s.publishesAtTick) ∧
      ∀ s', exec i { s with now := t } = .next s' → noPublication rest s'

/-- How many operations of the list are `TICK`. -/
def tickCount (ops : List (Word × Instr)) : Nat := ops.countP fun o => o.2 == .tick

/-- The high time of the current slot at `now`: what the accumulator holds and the stretch still open (R172, R182). -/
def State.slotHigh (s : State) : Word :=
  if s.lineLevel = .high then s.highTimeAccumulator + (s.now - s.referenceTime) else s.highTimeAccumulator

/-- The start windows in the spec's numbers (R174), with or without their bounds (D9). -/
def StartWindow (closed : Bool) (channel : BitVec 2) (h : Nat) : Prop :=
  if closed then (channel = 1#2 ∧ 475 ≤ h ∧ h ≤ 625) ∨ (channel = 2#2 ∧ 175 ≤ h ∧ h ≤ 325)
  else (channel = 1#2 ∧ 475 < h ∧ h < 625) ∨ (channel = 2#2 ∧ 175 < h ∧ h < 325)

/-- The line's transitions at the given times, alternating from a level, as the Edge Source delivers them (R258). -/
def transitions (l : Level) : List Word → List (Word × Instr)
  | [] => []
  | t :: ts => (t, .edge l.flip) :: transitions l.flip ts

/-- The time the line is high from `start` to `stop`, at level `l` first and changing at the given times (R182). -/
def highTime (l : Level) (start : Word) : List Word → Word → Word
  | [], stop => if l = .high then stop - start else 0#32
  | t :: ts, stop => (if l = .high then t - start else 0#32) + highTime l.flip t ts stop

/-- The two half-slot levels of a data bit, first half first (R90). -/
def bitLevels (b : Bool) : List Level :=
  if b then [.high, .low] else [.low, .high]

/-- The half-slot levels of the low `n` bits of `v`, most significant bit first (R91). -/
def payloadLevels : Nat → Nat → List Level
  | 0, _ => []
  | n + 1, v => bitLevels (v.testBit n) ++ payloadLevels n v

/-- The transition at `t` from one level to another, if there is one. -/
def transitionTo (t : Word) (cur next : Level) : List (Word × Instr) :=
  if cur = next then [] else [(t, .edge next)]

/-- The ticks every 400 µs from `t` on with the half-slots that follow them, an `EDGE` before a `TICK` of one time (R88, R181,
R184); after the last half-slot the line goes high (R89). -/
def slotOps (t : Word) (cur : Level) : List Level → List (Word × Instr)
  | [] => transitionTo t cur .high ++ [(t, .tick)]
  | l :: ls => transitionTo t cur l ++ (t, .tick) :: slotOps (t + 400#32) l ls

/-- One frame from its leading edge at `t0`: start slot low for `800 − h` and then high for `h`, then `n` data bits of `v` (R86
to R91). -/
def frameOps (t0 : Word) (h n v : Nat) : List (Word × Instr) :=
  (t0, .edge .low) :: (t0 + 800#32 - BitVec.ofNat 32 h, .edge .high) ::
    slotOps (t0 + 800#32) .high (payloadLevels n v)

end Sys2Proof.Machine
end

