-- ==== Sys2Proof/Certificates/Slice0/Obligations.lean ====
section
/-! DEFINITION. The statements for the provers. A docstring names the rule a statement formalises; "the spec's own choice D<n>"
marks a rule that 92_eei_decisions.md lists as a decision. -/

open Sys2Proof Sys2Proof.Machine Sys2Proof.Config Host

/-! Encodings. -/

/-- Decode and encode agree on every well-formed operation (R97 to R102, R107; the encoding is the spec's own choice D2, D17). -/
def Obligations.DecodeOfEncodeIsTheOperation : Prop :=
  ∀ i : Instr, i.wellFormed = true → decode (encode i) = .op i

/-- Each pin vector and each command word selects at most one operation, and it is the encoder's (D2, D17). -/
def Obligations.OnlyTheEncodersWordSelects : Prop :=
  ∀ (w : PinWord) (i : Instr), decode w = .op i → encode i = w ∧ i.wellFormed = true

/-- The reserved command words and their answer, and `cmd` without `cmd_valid` (the spec's own choice D17). -/
def Obligations.ReservedWordsAnswerErrIllegal : Prop :=
  ∀ w : Command,
    (decode (.cmd w) = .reserved ↔
      5 ≤ (w.extractLsb' 12 4).toNat ∨ w.extractLsb' 6 6 ≠ 0#6 ∨
        (w.extractLsb' 12 4 ∈ [0#4, 1#4, 4#4] ∧ w.extractLsb' 0 6 ≠ 0#6)) ∧
    (decode (.cmd w) ≠ .noEvent) ∧
    (∀ s : State, decode (.cmd w) = .reserved →
      handle (decode (.cmd w)) s = .next { s with response := some ⟨.errIllegal, 0#32⟩ }) ∧
    (∀ p : InPins, p.cmdValid = false → p.command = .noEvent)

/-- A few words written out from the encodings of R97 to R101. -/
def Obligations.WrittenOutWordsDecode : Prop :=
  decode (.rst 0b1#1) = .op .reset ∧
  decode (.edge 0b10#2) = .op (.edge .low) ∧
  decode (.edge 0b11#2) = .op (.edge .high) ∧
  decode (.edge 0b01#2) = .noEvent ∧
  decode (.tick 0b1#1) = .op .tick ∧
  decode (.cmd 0b0000000000000000#16) = .op .checkData ∧
  decode (.cmd 0b0001000000000000#16) = .op .lastPacketStartTime ∧
  decode (.cmd 0b0010000000000010#16) = .op (.switchChannel 2) ∧
  decode (.cmd 0b0011000000010001#16) = .op (.setExpectedBits 17) ∧
  decode (.cmd 0b0100000000000000#16) = .op .suppressPostRxSilence ∧
  decode (.cmd 0b0000000000000001#16) = .reserved

/-! One cycle. -/

/-- A cycle whose pins, driven or made by the reference platform, carry one operation and nothing else runs exactly that
operation, between the start and the end of the cycle (the step is the model's own form, log 1). -/
def Obligations.StepRunsTheDecodedOperation : Prop :=
  ∀ (s : State) (now : Word) (w : PinWord) (i : Instr),
    decode w = .op i → s.samplePins = InPins.only now w →
    s.beginCycle.now = now ∧ s.beginCycle.inputs = s.inputs.tail ∧ s.SameRegisters s.beginCycle ∧
    ∃ t, exec i s.beginCycle = .next t ∧
      step s = .next (t.endCycle (if i = .reset then 1#1 else 0#1))

/-- The order of the events of one cycle (the spec's own choice D15; the default of `EDGE_BEFORE_TICK`), whatever the pins come
from: `RESET` alone, else `EDGE`, `TICK`, command, each on the state the one before left, all with the same `now`. -/
def Obligations.EventsOfOneCycleAreOrdered : Prop :=
  ∀ s : State, s.params.edgeBeforeTick = true →
    (s.samplePins.rst = 1#1 →
      ∃ t, exec .reset s.beginCycle = .next t ∧ step s = .next (t.endCycle 1#1) ∧ t.response = none) ∧
    (s.samplePins.rst = 0#1 → ∃ a b c,
      handle (decode (.edge s.samplePins.edge)) s.beginCycle = .next a ∧
      handle (decode (.tick s.samplePins.tick)) a = .next b ∧
      handle s.samplePins.command b = .next c ∧
      step s = .next (c.endCycle 0#1) ∧
      s.beginCycle.now = s.samplePins.now ∧ a.now = s.samplePins.now ∧ b.now = s.samplePins.now ∧
      c.now = s.samplePins.now)

/-- The other setting of `EDGE_BEFORE_TICK` (U6): the `TICK` first. -/
def Obligations.TickFirstUnderTheOtherSetting : Prop :=
  ∀ s : State, s.params.edgeBeforeTick = false → s.samplePins.rst = 0#1 →
    ∃ a b c,
      handle (decode (.tick s.samplePins.tick)) s.beginCycle = .next a ∧
      handle (decode (.edge s.samplePins.edge)) a = .next b ∧
      handle s.samplePins.command b = .next c ∧
      step s = .next (c.endCycle 0#1)

/-- No operation and no cycle ever stops (R19 item 5, R240; 93_implementation_defined.md: nothing is stuck). -/
def Obligations.EveryCycleAnswersANextState : Prop :=
  ∀ s : State, ∃ t, step s = .next t

/-- The core never acts on its own (R19 item 1): a cycle whose pins carry no event (R97, R98, R103), driven or made by the
reference platform, leaves every register alone, asserts no action and answers nothing; a cycle of the platform with no transition,
no command and a silent Tick Source is such a cycle. Two clauses are the model's choices: that the reference Tick Source does not
count where the pins are driven (log 4; R264 counts in each cycle of the platform), and that an empty list of inputs is a cycle of
the platform with no transition and no command (log 14). -/
def Obligations.CycleWithoutEventChangesNoRegister : Prop :=
  (∀ s : State, s.samplePins.CarryNoEvent →
    ∃ t, step s = .next t ∧ s.SameRegisters t ∧ t.response = none ∧ t.tsActions = TsActions.none ∧
      t.inputs = s.inputs.tail ∧
      (∀ p, s.nextInput = .pins p → t.now = p.now ∧ t.tickSource = s.tickSource) ∧
      (∀ rst l c, s.nextInput = .line rst l c → t.now = s.now + 1#32 ∧ t.tickSource = s.tickSource.count)) ∧
  (∀ s : State, s.nextInput = .line false s.irPrev none → s.tickSource.ticks = false → s.samplePins.CarryNoEvent) ∧
  (∀ s : State, s.inputs = [] → s.nextInput = .line false s.irPrev none)

/-! The Edge Watcher. -/

/-- R151: the prologue of every `EDGE`. -/
def Obligations.EveryEdgeStampsTimeAndLevel : Prop :=
  ∀ (l : Level) (s : State), ∃ t, exec (.edge l) s = .next t ∧ t.referenceTime = s.now ∧ t.lineLevel = l

/-- R153: branch A, a falling edge in a capture; nothing else changes. -/
def Obligations.FallingEdgeInCaptureAddsHighTime : Prop :=
  ∀ s : State, s.bitCountdown ≠ 0#7 →
    exec (.edge .low) s = .next { s with
      referenceTime := s.now
      lineLevel := .low
      highTimeAccumulator := s.highTimeAccumulator + (s.now - s.referenceTime) }

/-- R154: branch B, arming, with nothing else changed (R158); the Tick Source is then enabled with the interval 800 and its
count at 0, and a silence exactly as long as required does not arm. -/
def Obligations.FallingEdgeAfterSilenceArms : Prop :=
  ∀ s : State, s.bitCountdown = 0#7 →
    (s.postRxSilenceMicros.toNat < (s.now - s.referenceTime).toNat →
      exec (.edge .low) s = .next { s with
        referenceTime := s.now
        lineLevel := .low
        bitCountdown := BitVec.ofNat 7 (2 * s.expectedBits.toNat + 1)
        tsActions := { s.tsActions with resetCounter := true, setInterval := some 800#16, enable := true } } ∧
      (s.tsActions.disable = false → ∃ t, exec (.edge .low) s = .next t ∧
        t.tickSource.apply t.tsActions = ⟨true, 800#16, 0#16⟩)) ∧
    ((s.now - s.referenceTime) = s.postRxSilenceMicros →
      exec (.edge .low) s = .next { s with referenceTime := s.now, lineLevel := .low })

/-- R155: branch C, a rising edge in any phase or a falling edge while idle inside the silence; nothing beyond the prologue. -/
def Obligations.OtherEdgesOnlyStamp : Prop :=
  ∀ (l : Level) (s : State),
    (l = .high ∨ (s.bitCountdown = 0#7 ∧ (s.now - s.referenceTime).toNat ≤ s.postRxSilenceMicros.toNat)) →
    exec (.edge l) s = .next { s with referenceTime := s.now, lineLevel := l }

/-- 41_edge_watcher.md section 3: no edge arms, restarts or ends a capture in progress. -/
def Obligations.NoEdgeArmsDuringACapture : Prop :=
  ∀ (l : Level) (s : State), s.bitCountdown ≠ 0#7 →
    ∃ t, exec (.edge l) s = .next t ∧ t.bitCountdown = s.bitCountdown ∧ t.tsActions = s.tsActions

/-- The frame of `EDGE` (10_state.md section 8; what arming leaves alone, the spec's own choice D11): the sample, the start
time, Configuration, the response and the environment; the accumulator but for branch A, the countdown but for branch B. -/
def Obligations.EdgeFrame : Prop :=
  ∀ (l : Level) (s t : State), exec (.edge l) s = .next t →
    s.SamePublished t ∧ s.SameConfiguration t ∧ s.SameEnvironment t ∧ t.response = s.response ∧
    (l = .high ∨ s.bitCountdown = 0#7 → t.highTimeAccumulator = s.highTimeAccumulator) ∧
    (l = .high ∨ s.bitCountdown ≠ 0#7 ∨ (s.now - s.referenceTime).toNat ≤ s.postRxSilenceMicros.toNat →
      t.bitCountdown = s.bitCountdown ∧ t.tsActions = s.tsActions)

/-- The direction of an edge is the operand's alone; the old `lineLevel` is not consulted (the spec's own choice D13). -/
def Obligations.EdgeDirectionIsTheOperands : Prop :=
  ∀ (l old : Level) (s : State), ∃ t, exec (.edge l) { s with lineLevel := old } = .next t ∧ exec (.edge l) s = .next t

/-- 41_edge_watcher.md R161: with the silence suppressed, a falling edge while idle arms exactly when some time has passed. -/
def Obligations.SuppressedSilenceArmsOnAnyElapsedTime : Prop :=
  ∀ s : State, s.bitCountdown = 0#7 → s.postRxSilenceMicros = 0#32 →
    ∃ t, exec (.edge .low) s = .next t ∧
      (s.now ≠ s.referenceTime → t.bitCountdown = BitVec.ofNat 7 (2 * s.expectedBits.toNat + 1)) ∧
      (s.now = s.referenceTime → t.bitCountdown = 0#7)

/-- 41_edge_watcher.md section 3 (the credit after an abort): the aborting tick at `s.now` lets the next falling edge arm
whenever it comes later (and before the Clock has gone round); a rising edge spends the credit. -/
def Obligations.AbortCreditLastsOneEdge : Prop :=
  ∀ s : State, s.bitCountdown = BitVec.ofNat 7 (2 * s.expectedBits.toNat + 1) →
    ¬ StartWindow s.params.windowClosed s.channel s.slotHigh.toNat →
    ∃ u, exec .tick s = .next u ∧
      (∀ t : Word, 0 < (t - s.now).toNat → (t - s.now).toNat + s.postRxSilenceMicros.toNat < 2 ^ 32 →
        ∃ v, exec (.edge .low) { u with now := t } = .next v ∧
          v.bitCountdown = BitVec.ofNat 7 (2 * s.expectedBits.toNat + 1)) ∧
      (∀ t t' : Word, ∃ v w, exec (.edge .high) { u with now := t } = .next v ∧
        exec (.edge .low) { v with now := t' } = .next w ∧
        (w.bitCountdown ≠ 0#7 ↔ s.postRxSilenceMicros.toNat < (t' - t).toNat))

/-! The Bit Sampler. -/

/-- A `TICK` while idle changes nothing (the spec's own choice D14). -/
def Obligations.TickWhileIdleChangesNothing : Prop :=
  ∀ s : State, s.bitCountdown = 0#7 → exec .tick s = .next s

/-- The start windows in numbers, both settings of `WINDOW_CLOSED` (D9), and that they never overlap. -/
def Obligations.StartWindowsInNumbers : Prop :=
  (∀ (closed : Bool) (c : BitVec 2) (h : Word), inWindow closed c h = true ↔ StartWindow closed c h.toNat) ∧
  (∀ (closed : Bool) (h : Nat), ¬ (StartWindow closed 1#2 h ∧ StartWindow closed 2#2 h))

/-- R175: first tick, window passed; nothing else changes. -/
def Obligations.FirstTickInWindowGoesOn : Prop :=
  ∀ s : State, s.bitCountdown = BitVec.ofNat 7 (2 * s.expectedBits.toNat + 1) →
    StartWindow s.params.windowClosed s.channel s.slotHigh.toNat →
    exec .tick s = .next { s with
      bitCountdown := BitVec.ofNat 7 (2 * s.expectedBits.toNat)
      referenceTime := s.now
      highTimeAccumulator := 0#32
      tsActions := { s.tsActions with setInterval := some 400#16 } }

/-- R176: first tick, window failed; nothing else changes. -/
def Obligations.FirstTickOutsideWindowAborts : Prop :=
  ∀ s : State, s.bitCountdown = BitVec.ofNat 7 (2 * s.expectedBits.toNat + 1) →
    ¬ StartWindow s.params.windowClosed s.channel s.slotHigh.toNat →
    exec .tick s = .next { s with
      bitCountdown := 0#7
      referenceTime := s.now - s.postRxSilenceMicros
      highTimeAccumulator := 0#32
      tsActions := { s.tsActions with disable := true } }

/-- R177 and R179, and the placement of the raw bit (the assignment is the spec's own choice D11): a later tick writes exactly
raw position `bitCountdown − 1`, with 1 for more than 200 µs of high time, and clears the accumulator. A tick that is not the
last publishes nothing. -/
def Obligations.LaterTickClassifiesItsSlot : Prop :=
  ∀ s : State, 0 < s.bitCountdown.toNat → s.bitCountdown.toNat ≤ 64 →
    s.bitCountdown.toNat ≠ 2 * s.expectedBits.toNat + 1 →
    ∃ t, exec .tick s = .next t ∧
      t.bitCountdown.toNat = s.bitCountdown.toNat - 1 ∧ t.referenceTime = s.now ∧ t.highTimeAccumulator = 0#32 ∧
      (∀ p, p < 64 → t.raw p = if p = s.bitCountdown.toNat - 1 then decide (200 < s.slotHigh.toNat) else s.raw p) ∧
      t.lineLevel = s.lineLevel ∧ s.SameConfiguration t ∧ s.SameEnvironment t ∧ t.response = s.response ∧
      (s.bitCountdown.toNat ≠ 1 →
        t.packetReadyFlag = s.packetReadyFlag ∧ t.packetStartTime = s.packetStartTime ∧ t.tsActions = s.tsActions)

/-- 42_bit_sampler.md R180 (the last tick classifies too: the spec's own choice D12): raw position 0 is written and the sample
published, whether or not one was pending. -/
def Obligations.LastTickPublishes : Prop :=
  ∀ s : State, s.bitCountdown = 1#7 → s.expectedBits ≠ 0#6 →
    ∃ t, exec .tick s = .next t ∧
      t.bitCountdown = 0#7 ∧ t.packetReadyFlag = true ∧ t.packetStartTime = s.now - s.packetLengthMicros ∧
      t.raw 0 = decide (200 < s.slotHigh.toNat) ∧ t.highTimeAccumulator = 0#32 ∧ t.referenceTime = s.now ∧
      t.tsActions = { s.tsActions with disable := true }

/-- R27, and when `packetStartTime` changes with it: the publishing `TICK` sets the flag, pending or not; `CHECK_DATA` and `RESET`
clear it; no other operation writes it, and none but `CHECK_DATA` reads it. -/
def Obligations.ReadyFlagChangesByItsRule : Prop :=
  ∀ (i : Instr) (s t : State), exec i s = .next t →
    t.packetReadyFlag =
      (match i with
      | .reset => false
      | .checkData => false
      | .tick => if s.bitCountdown = 1#7 ∧ s.expectedBits ≠ 0#6 then true else s.packetReadyFlag
      | _ => s.packetReadyFlag) ∧
    (i ≠ .reset → ¬ (i = .tick ∧ s.bitCountdown = 1#7 ∧ s.expectedBits ≠ 0#6) → t.packetStartTime = s.packetStartTime) ∧
    (i ≠ .checkData → ∀ b : Bool, ∃ u, exec i { s with packetReadyFlag := b } = .next u ∧
      { u with packetReadyFlag := t.packetReadyFlag } = t)

/-- The frame of `TICK` (10_state.md section 8), and of the host commands and `RESET` on what no operation writes. -/
def Obligations.TickAndEnvironmentFrame : Prop :=
  (∀ s t : State, exec .tick s = .next t →
    t.lineLevel = s.lineLevel ∧ s.SameConfiguration t ∧ t.response = s.response) ∧
  (∀ (i : Instr) (s t : State), exec i s = .next t → s.SameEnvironment t)

/-- 10_state.md section 3: how each operation changes `bitCountdown`; no other change is possible. -/
def Obligations.CountdownChangesByTheTable : Prop :=
  ∀ (i : Instr) (s t : State), exec i s = .next t →
    t.bitCountdown.toNat =
      match i with
      | .reset => 0
      | .edge l =>
        if s.bitCountdown = 0#7 ∧ l = .low ∧ s.postRxSilenceMicros.toNat < (s.now - s.referenceTime).toNat
        then 2 * s.expectedBits.toNat + 1 else s.bitCountdown.toNat
      | .tick =>
        if s.bitCountdown.toNat = 2 * s.expectedBits.toNat + 1 ∧
          inWindow s.params.windowClosed s.channel s.slotHigh = false
        then 0 else s.bitCountdown.toNat - 1
      | _ => s.bitCountdown.toNat

/-- 42_bit_sampler.md section 3 (R184): in a capture, a transition and a tick of one microsecond give the same state in either
order, unless the tick aborts. -/
def Obligations.EdgeAndTickCommuteUnlessAborting : Prop :=
  ∀ (l : Level) (s : State), s.bitCountdown ≠ 0#7 → s.lineLevel = l.flip →
    (s.bitCountdown = BitVec.ofNat 7 (2 * s.expectedBits.toNat + 1) →
      StartWindow s.params.windowClosed s.channel s.slotHigh.toNat) →
    ∃ a b u, exec (.edge l) s = .next a ∧ exec .tick a = .next u ∧
      exec .tick s = .next b ∧ exec (.edge l) b = .next u

/-- 42_bit_sampler.md section 3 (R182): with alternating transitions at the given times, the high time a slot is judged by is
what was accumulated and the time the line was high since. -/
def Obligations.SlotHighTimeIsTheLinesHighTime : Prop :=
  ∀ (s : State) (ts : List Word) (t : Word), s.bitCountdown ≠ 0#7 →
    ∃ u, runTimed (transitions s.lineLevel ts) s = .next u ∧ u.bitCountdown = s.bitCountdown ∧
      ({ u with now := t } : State).slotHigh =
        s.highTimeAccumulator + highTime s.lineLevel s.referenceTime ts t

/-- 42_bit_sampler.md sections 1 and 3 (R170, R185): a capture past its first tick runs to publication in exactly the ticks
still counted, whatever edges and host commands come between, unless `RESET` comes. -/
def Obligations.CaptureRunsToPublication : Prop :=
  ∀ (s : State) (ops : List (Word × Instr)) (t : Word),
    0 < s.bitCountdown.toNat → s.bitCountdown.toNat ≤ 2 * s.expectedBits.toNat →
    noReset ops → tickCount ops + 1 = s.bitCountdown.toNat →
    ∃ u v, runTimed ops s = .next u ∧ u.bitCountdown = 1#7 ∧
      exec .tick { u with now := t } = .next v ∧ v.phase = .idle ∧ v.packetReadyFlag = true ∧
      v.packetStartTime = t - s.packetLengthMicros

/-- 42_bit_sampler.md section 3 (R181): a capture armed by a falling edge at `t0` whose first tick comes at `t0 + 800` and passes
the window and whose last tick comes at `t0 + 800 + 800·N` publishes the arming edge plus 799 µs, whatever edges and host commands
come and whenever the ticks between come. -/
def Obligations.ExactTicksPublishArmingPlus799 : Prop :=
  ∀ (s b : State) (t0 : Word) (before after : List (Word × Instr)), s.RegInv → s.bitCountdown = 0#7 →
    s.postRxSilenceMicros.toNat < (t0 - s.referenceTime).toNat →
    noReset before → noTick before → noReset after → tickCount after + 1 = 2 * s.expectedBits.toNat →
    runTimed ((t0, .edge .low) :: before) s = .next b →
    StartWindow b.params.windowClosed b.channel ({ b with now := t0 + 800#32 } : State).slotHigh.toNat →
    ∃ t, runTimed ((t0, .edge .low) :: before ++ (t0 + 800#32, .tick) :: after ++
        [(t0 + 800#32 + BitVec.ofNat 32 (800 * s.expectedBits.toNat), .tick)]) s = .next t ∧
      t.phase = .idle ∧ t.packetReadyFlag = true ∧ t.packetStartTime = t0 + 799#32

/-! The Packet Decoder. -/

/-- R201: no publication since the last query. -/
def Obligations.CheckDataWithoutSample : Prop :=
  ∀ s : State, s.packetReadyFlag = false →
    exec .checkData s = .next { s with response := some ⟨.noData, 0#32⟩ }

/-- R202 and R203, and the success response (the tagged result is the spec's own choice D16): a sample that holds the pairs of
`v` decodes to `v`; the flag is cleared and nothing else changes. -/
def Obligations.ValidSampleDecodesToItsInteger : Prop :=
  ∀ (s : State) (v : Nat), s.packetReadyFlag = true → s.expectedBits.toNat ≤ 32 → v < 2 ^ s.expectedBits.toNat →
    (∀ j, j < s.expectedBits.toNat → s.raw (2 * j + 1) = v.testBit j ∧ s.raw (2 * j) = !v.testBit j) →
    exec .checkData s = .next { s with packetReadyFlag := false, response := some ⟨.ok, BitVec.ofNat 32 v⟩ }

/-- R204: one bad pair among the `expectedBits` pairs makes the packet invalid, and the sample is consumed all the same. -/
def Obligations.BadPairIsInvalid : Prop :=
  ∀ (s : State) (j : Nat), s.packetReadyFlag = true → j < s.expectedBits.toNat →
    s.raw (2 * j + 1) = s.raw (2 * j) →
    exec .checkData s = .next { s with packetReadyFlag := false, response := some ⟨.invalid, 0#32⟩ }

/-- R200: `CHECK_DATA` writes the flag and the response and nothing else, in every phase, does not read `now`, and its answer
is one of three. -/
def Obligations.CheckDataFrame : Prop :=
  ∀ s : State, ∃ r : Response,
    (∀ now' : Word, exec .checkData { s with now := now' } =
      .next { s with now := now', packetReadyFlag := false, response := some r }) ∧
    (r.status = .ok ∨ r = ⟨.noData, 0#32⟩ ∨ r = ⟨.invalid, 0#32⟩)

/-- R67: after a query, another one with no completed capture between finds no data, whatever edges, commands, resets, aborted
captures and ticks of a running capture come: no tick between publishes. -/
def Obligations.SecondCheckDataFindsNoData : Prop :=
  ∀ (s t : State) (ops : List (Word × Instr)), exec .checkData s = .next t → noPublication ops t →
    ∃ u, runTimed ops t = .next u ∧ exec .checkData u = .next { u with response := some ⟨.noData, 0#32⟩ }

/-- 30_encoding.md section 3 (R94): raw positions from `2·expectedBits` on do not influence the answer. -/
def Obligations.UnusedPositionsDoNotMatter : Prop :=
  ∀ (s : State) (ws : RawWords),
    (∀ p, p < 2 * s.expectedBits.toNat → rawBit ws p = s.raw p) →
    ∃ t u, exec .checkData s = .next t ∧ exec .checkData { s with rawWords := ws } = .next u ∧
      u.response = t.response ∧ u.packetReadyFlag = t.packetReadyFlag

/-! The configuration commands and the accessor. -/

/-- R131 and R132: `SET_EXPECTED_BITS`, its word and its pseudocode, the operand checked first, then the phase; with the last
writer winning (`SUPPRESS_STICKY` false, R10). Nothing else changes. -/
def Obligations.SetExpectedBitsByItsPseudocode : Prop :=
  ∀ (s : State) (n : Nat),
    (n < 64 → decode (.cmd (0x3000#16 + BitVec.ofNat 16 n)) = .op (.setExpectedBits n)) ∧
    (n = 0 ∨ 32 < n → exec (.setExpectedBits n) s = .next { s with response := some ⟨.errIllegal, 0#32⟩ }) ∧
    (1 ≤ n → n ≤ 32 → s.bitCountdown ≠ 0#7 →
      exec (.setExpectedBits n) s = .next { s with response := some ⟨.errBusy, 0#32⟩ }) ∧
    (1 ≤ n → n ≤ 32 → s.bitCountdown = 0#7 → s.params.suppressSticky = false →
      exec (.setExpectedBits n) s = .next { s with
        expectedBits := BitVec.ofNat 6 n
        packetLengthMicros := BitVec.ofNat 32 (800 * n + 1)
        postRxSilenceMicros := BitVec.ofNat 32 (40000 - (800 * n + 1) - 1600)
        response := some ⟨.ok, 0#32⟩ })

/-- R135: the word and the effect; nothing else changes, in every phase. -/
def Obligations.SuppressForcesSilenceToZero : Prop :=
  decode (.cmd 0x4000#16) = .op .suppressPostRxSilence ∧
  ∀ s : State, exec .suppressPostRxSilence s =
    .next { s with postRxSilenceMicros := 0#32, response := some ⟨.ok, 0#32⟩ }

/-- A `SET_EXPECTED_BITS` after a suppression puts the formula value back (the spec's own choice D10), and keeps 0 under the other
setting of `SUPPRESS_STICKY` (U11; log 11). -/
def Obligations.SuppressionThenSetExpectedBits : Prop :=
  ∀ (s : State) (n : Nat), 1 ≤ n → n ≤ 32 → s.bitCountdown = 0#7 →
    ∃ t u, exec .suppressPostRxSilence s = .next t ∧ exec (.setExpectedBits n) t = .next u ∧
      u.postRxSilenceMicros.toNat = (if s.params.suppressSticky then 0 else 38399 - 800 * n)

/-- 40_configuration.md section 4 (the refusal is the spec's own choice D8). -/
def Obligations.SwitchChannelLegalAndIllegal : Prop :=
  ∀ (s : State) (c : Nat),
    (c = 1 ∨ c = 2 → exec (.switchChannel c) s =
      .next { s with channel := BitVec.ofNat 2 c, response := some ⟨.ok, 0#32⟩ }) ∧
    (c ≠ 1 → c ≠ 2 → exec (.switchChannel c) s = .next { s with response := some ⟨.errIllegal, 0#32⟩ })

/-- R130: the configuration commands write Configuration and the response, and neither read `now` nor depend on it; their data
is 0. -/
def Obligations.ConfigurationCommandsTouchNoCaptureState : Prop :=
  ∀ (i : Instr) (s : State),
    ((∃ n, i = .setExpectedBits n) ∨ (∃ c, i = .switchChannel c) ∨ i = .suppressPostRxSilence) →
    ∃ t r, exec i s = .next t ∧ t.response = some r ∧ r.data = 0#32 ∧
      s.SameInProgress t ∧ s.SamePublished t ∧ s.SameEnvironment t ∧ t.tsActions = s.tsActions ∧
      ∀ now' : Word, exec i { s with now := now' } = .next { t with now := now' }

/-- 10_state.md section 9 (R37): the accumulator, the reference time, the line level and the Clock never reach the host: two
states that differ only there answer every host command alike and stay alike. -/
def Obligations.HostNeverSeesInProgressFields : Prop :=
  ∀ (i : Instr) (s : State) (acc ref now : Word) (l : Level), isHostCommand i = true →
    ∃ t, exec i s = .next t ∧
      exec i { s with highTimeAccumulator := acc, referenceTime := ref, lineLevel := l, now := now } =
        .next { t with highTimeAccumulator := acc, referenceTime := ref, lineLevel := l, now := now }

/-- 30_encoding.md section 8 (R104; the tagged result and its codes are the spec's own choice D16, the response's cycle D24):
every host command gives one response, on the pins `rsp_valid = 1`, its status's code and its data, which is 0 unless the status is
`OK`; `EDGE`, `TICK` and `RESET` give none; a cycle has a response exactly when it carries a command and no `RESET`, and otherwise
all three outputs are 0. -/
def Obligations.ResponsesAreTheHostCommands : Prop :=
  (∀ (i : Instr) (s : State), ∃ t, exec i s = .next t ∧
    (isHostCommand i = true → ∃ r, t.response = some r ∧ (r.status ≠ .ok → r.data = 0#32) ∧
      t.responsePins = (1#1, r.status.code, r.data)) ∧
    (isHostCommand i = false → t.response = s.response)) ∧
  (Status.ok.code = 0#3 ∧ Status.noData.code = 1#3 ∧ Status.invalid.code = 2#3 ∧ Status.errIllegal.code = 3#3 ∧
    Status.errBusy.code = 4#3) ∧
  (∀ s : State, ∃ t, step s = .next t ∧
    (t.responsePins.1 = 1#1 ↔ s.samplePins.rst = 0#1 ∧ s.samplePins.command ≠ .noEvent) ∧
    (t.responsePins.1 = 0#1 → t.responsePins = (0#1, 0#3, 0#32)))

/-- R220: the word of the accessor; it answers the register and changes no state. -/
def Obligations.LastPacketStartTimeAnswersTheRegister : Prop :=
  decode (.cmd 0x1000#16) = .op .lastPacketStartTime ∧
  ∀ s : State, exec .lastPacketStartTime s = .next { s with response := some ⟨.ok, s.packetStartTime⟩ }

/-! Reset. -/

/-- 70_reset_and_hazards.md section 1: the values of `RESET` (`expectedBits`, the lengths derived from it, idle and no sample are
the source's; the others are the spec's own choice D8, D19, under the default parameters). -/
def Obligations.ResetPutsEveryRegister : Prop :=
  ∀ s : State, s.params = Params.spec →
    exec .reset s = .next { s with
      expectedBits := 17#6
      packetLengthMicros := 13601#32
      postRxSilenceMicros := 24799#32
      channel := 1#2
      bitCountdown := 0#7
      highTimeAccumulator := 0#32
      referenceTime := 0#32
      lineLevel := .high
      rawWords := #v[0#32, 0#32]
      packetReadyFlag := false
      packetStartTime := 0#32
      tsActions := { s.tsActions with disable := true } }

/-- 70_reset_and_hazards.md section 1, 60_exceptions.md section 3 (D15, D19, D25) and log 6: a cycle with `rst = 1`, from any
state and whatever else is on the pins or the line, ends in the reset state but for the Clock, the parameters and the inputs to
come. -/
def Obligations.ResetCycleEndsInTheResetState : Prop :=
  ∀ s : State, s.params = Params.spec → s.samplePins.rst = 1#1 →
    step s = .next { State.reset with now := s.samplePins.now, inputs := s.inputs.tail }

/-! Invariants. -/

/-- R34, "true after reset". -/
def Obligations.ResetMeetsTheInvariant : Prop := State.reset.Inv

/-- R34 (a) to (d), R31, "true … after every operation". -/
def Obligations.EveryOperationKeepsTheRegisterInvariant : Prop :=
  ∀ (i : Instr) (s : State), s.RegInv → ∃ t, exec i s = .next t ∧ t.RegInv

/-- R34 with (e): every cycle keeps the invariant, whatever is on the pins, in either order of `EDGE` and `TICK` and with any
setting of the open parameters. -/
def Obligations.EveryCycleKeepsTheInvariant : Prop :=
  ∀ s t : State, s.Inv → step s = .next t → t.Inv

/-- R34 (f): no operation but `RESET` writes a raw position from `2·expectedBits` on. -/
def Obligations.HighRawPositionsAreNotWritten : Prop :=
  ∀ (i : Instr) (s t : State) (p : Nat), s.RegInv → i ≠ .reset → exec i s = .next t →
    2 * s.expectedBits.toNat ≤ p → t.raw p = s.raw p

/-- 30_encoding.md section 5 (R110; the pins are the spec's own choice D2, D18): the combinations of Tick Source actions of one
operation. -/
def Obligations.TickSourceActionsAreTheTable : Prop :=
  ∀ (i : Instr) (s t : State), s.RegInv → s.tsActions = TsActions.none → exec i s = .next t →
    t.tsActions =
      match i with
      | .reset => ⟨false, none, false, true⟩
      | .edge _ => if s.bitCountdown = 0#7 ∧ t.bitCountdown ≠ 0#7 then ⟨true, some 800#16, true, false⟩ else TsActions.none
      | .tick =>
        if s.bitCountdown = 0#7 then TsActions.none
        else if t.bitCountdown = 0#7 then ⟨false, none, false, true⟩
        else if s.bitCountdown.toNat = 2 * s.expectedBits.toNat + 1 then ⟨false, some 400#16, false, false⟩
        else TsActions.none
      | _ => TsActions.none

/-! The reference platform (no part of the block; 60_exceptions.md sections 7, 8 and 10). -/

/-- 60_exceptions.md sections 7 and 10 (D18): an enabled Tick Source with its counter at 0 and the interval `v` ticks first in
the `v`-th cycle from there, and its counter is then 0 again. -/
def Obligations.TickSourceTicksAfterItsInterval : Prop :=
  ∀ (v : BitVec 16) (k : Nat), k < v.toNat →
    let ts := TickSource.count^[k] ⟨true, v, 0#16⟩
    ts.counter.toNat = k ∧ (ts.ticks = true ↔ k + 1 = v.toNat) ∧ (k + 1 = v.toNat → ts.count = ⟨true, v, 0#16⟩)

/-- 60_exceptions.md section 7 (D18): the actions of one cycle are applied in the order reset, set interval, enable, disable. -/
def Obligations.TickSourceTakesActionsInOrder : Prop :=
  ∀ (ts : TickSource) (a : TsActions),
    (ts.apply a).counter = (if a.resetCounter then 0#16 else ts.counter) ∧
    (ts.apply a).interval = a.setInterval.getD ts.interval ∧
    (ts.apply a).enabled = (!a.disable && (a.enable || ts.enabled))

/-- 60_exceptions.md sections 2 and 4 (R236): on the reference platform a tick arrives only in a capture. -/
def Obligations.PlatformTicksOnlyInACapture : Prop :=
  ∀ (s : State) (rst : Bool) (l : Level) (c : Option Command), s.Inv → s.nextInput = .line rst l c →
    s.samplePins.tick = 1#1 → s.phase ≠ .idle

/-- 60_exceptions.md sections 8 and 10 (R258, R265; D20): the reference Edge Source delivers one `EDGE` per transition of the
line with the level after it, and none in reset. -/
def Obligations.EdgeSourceDeliversTransitions : Prop :=
  ∀ (s : State) (rst : Bool) (l : Level) (c : Option Command), s.nextInput = .line rst l c →
    decode (.edge s.samplePins.edge) = (if rst = true ∨ l = s.irPrev then .noEvent else .op (.edge l)) ∧
    ∃ t, step s = .next t ∧ t.irPrev = (if rst then .high else l) ∧ t.now = s.now + 1#32

/-- 60_exceptions.md sections 7 and 10 (R263 (e), R264; D18) and 30_encoding.md section 5 (R96): a cycle of the reference platform
samples the tick its Tick Source gives and the host's command (the block then handles them, EventsOfOneCycleAreOrdered), its Tick
Source has counted before, and takes the actions of the block after; in reset it is reset (log 6). Driven pins are sampled as they
are. -/
def Obligations.PlatformCycleCountsAndTakesActions : Prop :=
  (∀ (s : State) (p : InPins), s.nextInput = .pins p → s.samplePins = p) ∧
  (∀ (s : State) (rst : Bool) (l : Level) (c : Option Command), s.nextInput = .line rst l c →
    decode (.rst s.samplePins.rst) = (if rst then .op .reset else .noEvent) ∧
    decode (.tick s.samplePins.tick) = (if s.tickSource.ticks then .op .tick else .noEvent) ∧
    s.samplePins.command = (match c with
      | some w => decode (.cmd w)
      | none => .noEvent) ∧
    s.beginCycle.tickSource = s.tickSource.count ∧
    ∃ t, step s = .next t ∧
      t.tickSource = (if rst then TickSource.atReset else s.tickSource.count.apply t.tsActions))

/-! The whole block. -/

/-- The source's round trip (43_packet_decoder.md section 3, R207): from any idle state that meets the invariants, after a long
enough silence, a frame of `expectedBits` bits carrying `v` with a start pulse inside the channel's window is captured, its start
time is the arming edge plus 799 µs (R181), and `CHECK_DATA` answers `(OK, v)`. -/
def Obligations.FrameRoundTrip : Prop :=
  ∀ (s : State) (t0 : Word) (h v : Nat), s.RegInv → s.bitCountdown = 0#7 →
    s.postRxSilenceMicros.toNat < (t0 - s.referenceTime).toNat →
    StartWindow s.params.windowClosed s.channel h → v < 2 ^ s.expectedBits.toNat →
    ∃ u t, runTimed (frameOps t0 h s.expectedBits.toNat v) s = .next u ∧ u.phase = .idle ∧ u.packetReadyFlag = true ∧
      u.packetStartTime = t0 + 799#32 ∧ exec .checkData u = .next t ∧ t.response = some ⟨.ok, BitVec.ofNat 32 v⟩
end

