-- ==== Sys2Proof/Laws/State.lean ====
section
/-! SUPPORT. One lemma per field per update of State: what each named operation writes, and that it writes nothing else. -/

namespace Sys2Proof.Machine

open Sys2Proof.Config

variable (s : State)

@[simp] theorem setLineLevel_expectedBits (l : Level) : (s.setLineLevel l).expectedBits = s.expectedBits := rfl
@[simp] theorem setLineLevel_packetLengthMicros (l : Level) : (s.setLineLevel l).packetLengthMicros = s.packetLengthMicros := rfl
@[simp] theorem setLineLevel_postRxSilenceMicros (l : Level) : (s.setLineLevel l).postRxSilenceMicros = s.postRxSilenceMicros := rfl
@[simp] theorem setLineLevel_channel (l : Level) : (s.setLineLevel l).channel = s.channel := rfl
@[simp] theorem setLineLevel_bitCountdown (l : Level) : (s.setLineLevel l).bitCountdown = s.bitCountdown := rfl
@[simp] theorem setLineLevel_highTimeAccumulator (l : Level) : (s.setLineLevel l).highTimeAccumulator = s.highTimeAccumulator := rfl
@[simp] theorem setLineLevel_referenceTime (l : Level) : (s.setLineLevel l).referenceTime = s.referenceTime := rfl
@[simp] theorem setLineLevel_lineLevel (l : Level) : (s.setLineLevel l).lineLevel = l := rfl
@[simp] theorem setLineLevel_rawWords (l : Level) : (s.setLineLevel l).rawWords = s.rawWords := rfl
@[simp] theorem setLineLevel_packetReadyFlag (l : Level) : (s.setLineLevel l).packetReadyFlag = s.packetReadyFlag := rfl
@[simp] theorem setLineLevel_packetStartTime (l : Level) : (s.setLineLevel l).packetStartTime = s.packetStartTime := rfl
@[simp] theorem setLineLevel_now (l : Level) : (s.setLineLevel l).now = s.now := rfl
@[simp] theorem setLineLevel_tickSource (l : Level) : (s.setLineLevel l).tickSource = s.tickSource := rfl
@[simp] theorem setLineLevel_irPrev (l : Level) : (s.setLineLevel l).irPrev = s.irPrev := rfl
@[simp] theorem setLineLevel_tsActions (l : Level) : (s.setLineLevel l).tsActions = s.tsActions := rfl
@[simp] theorem setLineLevel_response (l : Level) : (s.setLineLevel l).response = s.response := rfl
@[simp] theorem setLineLevel_params (l : Level) : (s.setLineLevel l).params = s.params := rfl
@[simp] theorem setLineLevel_inputs (l : Level) : (s.setLineLevel l).inputs = s.inputs := rfl

@[simp] theorem setReadyFlag_expectedBits (b : Bool) : (s.setReadyFlag b).expectedBits = s.expectedBits := rfl
@[simp] theorem setReadyFlag_packetLengthMicros (b : Bool) : (s.setReadyFlag b).packetLengthMicros = s.packetLengthMicros := rfl
@[simp] theorem setReadyFlag_postRxSilenceMicros (b : Bool) : (s.setReadyFlag b).postRxSilenceMicros = s.postRxSilenceMicros := rfl
@[simp] theorem setReadyFlag_channel (b : Bool) : (s.setReadyFlag b).channel = s.channel := rfl
@[simp] theorem setReadyFlag_bitCountdown (b : Bool) : (s.setReadyFlag b).bitCountdown = s.bitCountdown := rfl
@[simp] theorem setReadyFlag_highTimeAccumulator (b : Bool) : (s.setReadyFlag b).highTimeAccumulator = s.highTimeAccumulator := rfl
@[simp] theorem setReadyFlag_referenceTime (b : Bool) : (s.setReadyFlag b).referenceTime = s.referenceTime := rfl
@[simp] theorem setReadyFlag_lineLevel (b : Bool) : (s.setReadyFlag b).lineLevel = s.lineLevel := rfl
@[simp] theorem setReadyFlag_rawWords (b : Bool) : (s.setReadyFlag b).rawWords = s.rawWords := rfl
@[simp] theorem setReadyFlag_packetReadyFlag (b : Bool) : (s.setReadyFlag b).packetReadyFlag = b := rfl
@[simp] theorem setReadyFlag_packetStartTime (b : Bool) : (s.setReadyFlag b).packetStartTime = s.packetStartTime := rfl
@[simp] theorem setReadyFlag_now (b : Bool) : (s.setReadyFlag b).now = s.now := rfl
@[simp] theorem setReadyFlag_tickSource (b : Bool) : (s.setReadyFlag b).tickSource = s.tickSource := rfl
@[simp] theorem setReadyFlag_irPrev (b : Bool) : (s.setReadyFlag b).irPrev = s.irPrev := rfl
@[simp] theorem setReadyFlag_tsActions (b : Bool) : (s.setReadyFlag b).tsActions = s.tsActions := rfl
@[simp] theorem setReadyFlag_response (b : Bool) : (s.setReadyFlag b).response = s.response := rfl
@[simp] theorem setReadyFlag_params (b : Bool) : (s.setReadyFlag b).params = s.params := rfl
@[simp] theorem setReadyFlag_inputs (b : Bool) : (s.setReadyFlag b).inputs = s.inputs := rfl

@[simp] theorem tsResetCounter_expectedBits : (s.tsResetCounter).expectedBits = s.expectedBits := rfl
@[simp] theorem tsResetCounter_packetLengthMicros : (s.tsResetCounter).packetLengthMicros = s.packetLengthMicros := rfl
@[simp] theorem tsResetCounter_postRxSilenceMicros : (s.tsResetCounter).postRxSilenceMicros = s.postRxSilenceMicros := rfl
@[simp] theorem tsResetCounter_channel : (s.tsResetCounter).channel = s.channel := rfl
@[simp] theorem tsResetCounter_bitCountdown : (s.tsResetCounter).bitCountdown = s.bitCountdown := rfl
@[simp] theorem tsResetCounter_highTimeAccumulator : (s.tsResetCounter).highTimeAccumulator = s.highTimeAccumulator := rfl
@[simp] theorem tsResetCounter_referenceTime : (s.tsResetCounter).referenceTime = s.referenceTime := rfl
@[simp] theorem tsResetCounter_lineLevel : (s.tsResetCounter).lineLevel = s.lineLevel := rfl
@[simp] theorem tsResetCounter_rawWords : (s.tsResetCounter).rawWords = s.rawWords := rfl
@[simp] theorem tsResetCounter_packetReadyFlag : (s.tsResetCounter).packetReadyFlag = s.packetReadyFlag := rfl
@[simp] theorem tsResetCounter_packetStartTime : (s.tsResetCounter).packetStartTime = s.packetStartTime := rfl
@[simp] theorem tsResetCounter_now : (s.tsResetCounter).now = s.now := rfl
@[simp] theorem tsResetCounter_tickSource : (s.tsResetCounter).tickSource = s.tickSource := rfl
@[simp] theorem tsResetCounter_irPrev : (s.tsResetCounter).irPrev = s.irPrev := rfl
@[simp] theorem tsResetCounter_tsActions : (s.tsResetCounter).tsActions = { s.tsActions with resetCounter := true } := rfl
@[simp] theorem tsResetCounter_response : (s.tsResetCounter).response = s.response := rfl
@[simp] theorem tsResetCounter_params : (s.tsResetCounter).params = s.params := rfl
@[simp] theorem tsResetCounter_inputs : (s.tsResetCounter).inputs = s.inputs := rfl

@[simp] theorem tsSetInterval_expectedBits (v : BitVec 16) : (s.tsSetInterval v).expectedBits = s.expectedBits := rfl
@[simp] theorem tsSetInterval_packetLengthMicros (v : BitVec 16) : (s.tsSetInterval v).packetLengthMicros = s.packetLengthMicros := rfl
@[simp] theorem tsSetInterval_postRxSilenceMicros (v : BitVec 16) : (s.tsSetInterval v).postRxSilenceMicros = s.postRxSilenceMicros := rfl
@[simp] theorem tsSetInterval_channel (v : BitVec 16) : (s.tsSetInterval v).channel = s.channel := rfl
@[simp] theorem tsSetInterval_bitCountdown (v : BitVec 16) : (s.tsSetInterval v).bitCountdown = s.bitCountdown := rfl
@[simp] theorem tsSetInterval_highTimeAccumulator (v : BitVec 16) : (s.tsSetInterval v).highTimeAccumulator = s.highTimeAccumulator := rfl
@[simp] theorem tsSetInterval_referenceTime (v : BitVec 16) : (s.tsSetInterval v).referenceTime = s.referenceTime := rfl
@[simp] theorem tsSetInterval_lineLevel (v : BitVec 16) : (s.tsSetInterval v).lineLevel = s.lineLevel := rfl
@[simp] theorem tsSetInterval_rawWords (v : BitVec 16) : (s.tsSetInterval v).rawWords = s.rawWords := rfl
@[simp] theorem tsSetInterval_packetReadyFlag (v : BitVec 16) : (s.tsSetInterval v).packetReadyFlag = s.packetReadyFlag := rfl
@[simp] theorem tsSetInterval_packetStartTime (v : BitVec 16) : (s.tsSetInterval v).packetStartTime = s.packetStartTime := rfl
@[simp] theorem tsSetInterval_now (v : BitVec 16) : (s.tsSetInterval v).now = s.now := rfl
@[simp] theorem tsSetInterval_tickSource (v : BitVec 16) : (s.tsSetInterval v).tickSource = s.tickSource := rfl
@[simp] theorem tsSetInterval_irPrev (v : BitVec 16) : (s.tsSetInterval v).irPrev = s.irPrev := rfl
@[simp] theorem tsSetInterval_tsActions (v : BitVec 16) : (s.tsSetInterval v).tsActions = { s.tsActions with setInterval := some v } := rfl
@[simp] theorem tsSetInterval_response (v : BitVec 16) : (s.tsSetInterval v).response = s.response := rfl
@[simp] theorem tsSetInterval_params (v : BitVec 16) : (s.tsSetInterval v).params = s.params := rfl
@[simp] theorem tsSetInterval_inputs (v : BitVec 16) : (s.tsSetInterval v).inputs = s.inputs := rfl

@[simp] theorem tsEnable_expectedBits : (s.tsEnable).expectedBits = s.expectedBits := rfl
@[simp] theorem tsEnable_packetLengthMicros : (s.tsEnable).packetLengthMicros = s.packetLengthMicros := rfl
@[simp] theorem tsEnable_postRxSilenceMicros : (s.tsEnable).postRxSilenceMicros = s.postRxSilenceMicros := rfl
@[simp] theorem tsEnable_channel : (s.tsEnable).channel = s.channel := rfl
@[simp] theorem tsEnable_bitCountdown : (s.tsEnable).bitCountdown = s.bitCountdown := rfl
@[simp] theorem tsEnable_highTimeAccumulator : (s.tsEnable).highTimeAccumulator = s.highTimeAccumulator := rfl
@[simp] theorem tsEnable_referenceTime : (s.tsEnable).referenceTime = s.referenceTime := rfl
@[simp] theorem tsEnable_lineLevel : (s.tsEnable).lineLevel = s.lineLevel := rfl
@[simp] theorem tsEnable_rawWords : (s.tsEnable).rawWords = s.rawWords := rfl
@[simp] theorem tsEnable_packetReadyFlag : (s.tsEnable).packetReadyFlag = s.packetReadyFlag := rfl
@[simp] theorem tsEnable_packetStartTime : (s.tsEnable).packetStartTime = s.packetStartTime := rfl
@[simp] theorem tsEnable_now : (s.tsEnable).now = s.now := rfl
@[simp] theorem tsEnable_tickSource : (s.tsEnable).tickSource = s.tickSource := rfl
@[simp] theorem tsEnable_irPrev : (s.tsEnable).irPrev = s.irPrev := rfl
@[simp] theorem tsEnable_tsActions : (s.tsEnable).tsActions = { s.tsActions with enable := true } := rfl
@[simp] theorem tsEnable_response : (s.tsEnable).response = s.response := rfl
@[simp] theorem tsEnable_params : (s.tsEnable).params = s.params := rfl
@[simp] theorem tsEnable_inputs : (s.tsEnable).inputs = s.inputs := rfl

@[simp] theorem tsDisable_expectedBits : (s.tsDisable).expectedBits = s.expectedBits := rfl
@[simp] theorem tsDisable_packetLengthMicros : (s.tsDisable).packetLengthMicros = s.packetLengthMicros := rfl
@[simp] theorem tsDisable_postRxSilenceMicros : (s.tsDisable).postRxSilenceMicros = s.postRxSilenceMicros := rfl
@[simp] theorem tsDisable_channel : (s.tsDisable).channel = s.channel := rfl
@[simp] theorem tsDisable_bitCountdown : (s.tsDisable).bitCountdown = s.bitCountdown := rfl
@[simp] theorem tsDisable_highTimeAccumulator : (s.tsDisable).highTimeAccumulator = s.highTimeAccumulator := rfl
@[simp] theorem tsDisable_referenceTime : (s.tsDisable).referenceTime = s.referenceTime := rfl
@[simp] theorem tsDisable_lineLevel : (s.tsDisable).lineLevel = s.lineLevel := rfl
@[simp] theorem tsDisable_rawWords : (s.tsDisable).rawWords = s.rawWords := rfl
@[simp] theorem tsDisable_packetReadyFlag : (s.tsDisable).packetReadyFlag = s.packetReadyFlag := rfl
@[simp] theorem tsDisable_packetStartTime : (s.tsDisable).packetStartTime = s.packetStartTime := rfl
@[simp] theorem tsDisable_now : (s.tsDisable).now = s.now := rfl
@[simp] theorem tsDisable_tickSource : (s.tsDisable).tickSource = s.tickSource := rfl
@[simp] theorem tsDisable_irPrev : (s.tsDisable).irPrev = s.irPrev := rfl
@[simp] theorem tsDisable_tsActions : (s.tsDisable).tsActions = { s.tsActions with disable := true } := rfl
@[simp] theorem tsDisable_response : (s.tsDisable).response = s.response := rfl
@[simp] theorem tsDisable_params : (s.tsDisable).params = s.params := rfl
@[simp] theorem tsDisable_inputs : (s.tsDisable).inputs = s.inputs := rfl

@[simp] theorem setReferenceTime_expectedBits (v : Word) : (s.setReferenceTime v).expectedBits = s.expectedBits := rfl
@[simp] theorem setReferenceTime_packetLengthMicros (v : Word) : (s.setReferenceTime v).packetLengthMicros = s.packetLengthMicros := rfl
@[simp] theorem setReferenceTime_postRxSilenceMicros (v : Word) : (s.setReferenceTime v).postRxSilenceMicros = s.postRxSilenceMicros := rfl
@[simp] theorem setReferenceTime_channel (v : Word) : (s.setReferenceTime v).channel = s.channel := rfl
@[simp] theorem setReferenceTime_bitCountdown (v : Word) : (s.setReferenceTime v).bitCountdown = s.bitCountdown := rfl
@[simp] theorem setReferenceTime_highTimeAccumulator (v : Word) : (s.setReferenceTime v).highTimeAccumulator = s.highTimeAccumulator := rfl
@[simp] theorem setReferenceTime_referenceTime (v : Word) : (s.setReferenceTime v).referenceTime = v := rfl
@[simp] theorem setReferenceTime_lineLevel (v : Word) : (s.setReferenceTime v).lineLevel = s.lineLevel := rfl
@[simp] theorem setReferenceTime_rawWords (v : Word) : (s.setReferenceTime v).rawWords = s.rawWords := rfl
@[simp] theorem setReferenceTime_packetReadyFlag (v : Word) : (s.setReferenceTime v).packetReadyFlag = s.packetReadyFlag := rfl
@[simp] theorem setReferenceTime_packetStartTime (v : Word) : (s.setReferenceTime v).packetStartTime = s.packetStartTime := rfl
@[simp] theorem setReferenceTime_now (v : Word) : (s.setReferenceTime v).now = s.now := rfl
@[simp] theorem setReferenceTime_tickSource (v : Word) : (s.setReferenceTime v).tickSource = s.tickSource := rfl
@[simp] theorem setReferenceTime_irPrev (v : Word) : (s.setReferenceTime v).irPrev = s.irPrev := rfl
@[simp] theorem setReferenceTime_tsActions (v : Word) : (s.setReferenceTime v).tsActions = s.tsActions := rfl
@[simp] theorem setReferenceTime_response (v : Word) : (s.setReferenceTime v).response = s.response := rfl
@[simp] theorem setReferenceTime_params (v : Word) : (s.setReferenceTime v).params = s.params := rfl
@[simp] theorem setReferenceTime_inputs (v : Word) : (s.setReferenceTime v).inputs = s.inputs := rfl

@[simp] theorem setAccumulator_expectedBits (v : Word) : (s.setAccumulator v).expectedBits = s.expectedBits := rfl
@[simp] theorem setAccumulator_packetLengthMicros (v : Word) : (s.setAccumulator v).packetLengthMicros = s.packetLengthMicros := rfl
@[simp] theorem setAccumulator_postRxSilenceMicros (v : Word) : (s.setAccumulator v).postRxSilenceMicros = s.postRxSilenceMicros := rfl
@[simp] theorem setAccumulator_channel (v : Word) : (s.setAccumulator v).channel = s.channel := rfl
@[simp] theorem setAccumulator_bitCountdown (v : Word) : (s.setAccumulator v).bitCountdown = s.bitCountdown := rfl
@[simp] theorem setAccumulator_highTimeAccumulator (v : Word) : (s.setAccumulator v).highTimeAccumulator = v := rfl
@[simp] theorem setAccumulator_referenceTime (v : Word) : (s.setAccumulator v).referenceTime = s.referenceTime := rfl
@[simp] theorem setAccumulator_lineLevel (v : Word) : (s.setAccumulator v).lineLevel = s.lineLevel := rfl
@[simp] theorem setAccumulator_rawWords (v : Word) : (s.setAccumulator v).rawWords = s.rawWords := rfl
@[simp] theorem setAccumulator_packetReadyFlag (v : Word) : (s.setAccumulator v).packetReadyFlag = s.packetReadyFlag := rfl
@[simp] theorem setAccumulator_packetStartTime (v : Word) : (s.setAccumulator v).packetStartTime = s.packetStartTime := rfl
@[simp] theorem setAccumulator_now (v : Word) : (s.setAccumulator v).now = s.now := rfl
@[simp] theorem setAccumulator_tickSource (v : Word) : (s.setAccumulator v).tickSource = s.tickSource := rfl
@[simp] theorem setAccumulator_irPrev (v : Word) : (s.setAccumulator v).irPrev = s.irPrev := rfl
@[simp] theorem setAccumulator_tsActions (v : Word) : (s.setAccumulator v).tsActions = s.tsActions := rfl
@[simp] theorem setAccumulator_response (v : Word) : (s.setAccumulator v).response = s.response := rfl
@[simp] theorem setAccumulator_params (v : Word) : (s.setAccumulator v).params = s.params := rfl
@[simp] theorem setAccumulator_inputs (v : Word) : (s.setAccumulator v).inputs = s.inputs := rfl

@[simp] theorem setCountdown_expectedBits (v : BitVec 7) : (s.setCountdown v).expectedBits = s.expectedBits := rfl
@[simp] theorem setCountdown_packetLengthMicros (v : BitVec 7) : (s.setCountdown v).packetLengthMicros = s.packetLengthMicros := rfl
@[simp] theorem setCountdown_postRxSilenceMicros (v : BitVec 7) : (s.setCountdown v).postRxSilenceMicros = s.postRxSilenceMicros := rfl
@[simp] theorem setCountdown_channel (v : BitVec 7) : (s.setCountdown v).channel = s.channel := rfl
@[simp] theorem setCountdown_bitCountdown (v : BitVec 7) : (s.setCountdown v).bitCountdown = v := rfl
@[simp] theorem setCountdown_highTimeAccumulator (v : BitVec 7) : (s.setCountdown v).highTimeAccumulator = s.highTimeAccumulator := rfl
@[simp] theorem setCountdown_referenceTime (v : BitVec 7) : (s.setCountdown v).referenceTime = s.referenceTime := rfl
@[simp] theorem setCountdown_lineLevel (v : BitVec 7) : (s.setCountdown v).lineLevel = s.lineLevel := rfl
@[simp] theorem setCountdown_rawWords (v : BitVec 7) : (s.setCountdown v).rawWords = s.rawWords := rfl
@[simp] theorem setCountdown_packetReadyFlag (v : BitVec 7) : (s.setCountdown v).packetReadyFlag = s.packetReadyFlag := rfl
@[simp] theorem setCountdown_packetStartTime (v : BitVec 7) : (s.setCountdown v).packetStartTime = s.packetStartTime := rfl
@[simp] theorem setCountdown_now (v : BitVec 7) : (s.setCountdown v).now = s.now := rfl
@[simp] theorem setCountdown_tickSource (v : BitVec 7) : (s.setCountdown v).tickSource = s.tickSource := rfl
@[simp] theorem setCountdown_irPrev (v : BitVec 7) : (s.setCountdown v).irPrev = s.irPrev := rfl
@[simp] theorem setCountdown_tsActions (v : BitVec 7) : (s.setCountdown v).tsActions = s.tsActions := rfl
@[simp] theorem setCountdown_response (v : BitVec 7) : (s.setCountdown v).response = s.response := rfl
@[simp] theorem setCountdown_params (v : BitVec 7) : (s.setCountdown v).params = s.params := rfl
@[simp] theorem setCountdown_inputs (v : BitVec 7) : (s.setCountdown v).inputs = s.inputs := rfl

@[simp] theorem setPacketStart_expectedBits (v : Word) : (s.setPacketStart v).expectedBits = s.expectedBits := rfl
@[simp] theorem setPacketStart_packetLengthMicros (v : Word) : (s.setPacketStart v).packetLengthMicros = s.packetLengthMicros := rfl
@[simp] theorem setPacketStart_postRxSilenceMicros (v : Word) : (s.setPacketStart v).postRxSilenceMicros = s.postRxSilenceMicros := rfl
@[simp] theorem setPacketStart_channel (v : Word) : (s.setPacketStart v).channel = s.channel := rfl
@[simp] theorem setPacketStart_bitCountdown (v : Word) : (s.setPacketStart v).bitCountdown = s.bitCountdown := rfl
@[simp] theorem setPacketStart_highTimeAccumulator (v : Word) : (s.setPacketStart v).highTimeAccumulator = s.highTimeAccumulator := rfl
@[simp] theorem setPacketStart_referenceTime (v : Word) : (s.setPacketStart v).referenceTime = s.referenceTime := rfl
@[simp] theorem setPacketStart_lineLevel (v : Word) : (s.setPacketStart v).lineLevel = s.lineLevel := rfl
@[simp] theorem setPacketStart_rawWords (v : Word) : (s.setPacketStart v).rawWords = s.rawWords := rfl
@[simp] theorem setPacketStart_packetReadyFlag (v : Word) : (s.setPacketStart v).packetReadyFlag = s.packetReadyFlag := rfl
@[simp] theorem setPacketStart_packetStartTime (v : Word) : (s.setPacketStart v).packetStartTime = v := rfl
@[simp] theorem setPacketStart_now (v : Word) : (s.setPacketStart v).now = s.now := rfl
@[simp] theorem setPacketStart_tickSource (v : Word) : (s.setPacketStart v).tickSource = s.tickSource := rfl
@[simp] theorem setPacketStart_irPrev (v : Word) : (s.setPacketStart v).irPrev = s.irPrev := rfl
@[simp] theorem setPacketStart_tsActions (v : Word) : (s.setPacketStart v).tsActions = s.tsActions := rfl
@[simp] theorem setPacketStart_response (v : Word) : (s.setPacketStart v).response = s.response := rfl
@[simp] theorem setPacketStart_params (v : Word) : (s.setPacketStart v).params = s.params := rfl
@[simp] theorem setPacketStart_inputs (v : Word) : (s.setPacketStart v).inputs = s.inputs := rfl

@[simp] theorem setBitCount_expectedBits (n : Nat) : (s.setBitCount n).expectedBits = BitVec.ofNat 6 n := rfl
@[simp] theorem setBitCount_packetLengthMicros (n : Nat) : (s.setBitCount n).packetLengthMicros = packetLength n := rfl
@[simp] theorem setBitCount_postRxSilenceMicros (n : Nat) : (s.setBitCount n).postRxSilenceMicros = recomputedSilence s.params s.postRxSilenceMicros n := rfl
@[simp] theorem setBitCount_channel (n : Nat) : (s.setBitCount n).channel = s.channel := rfl
@[simp] theorem setBitCount_bitCountdown (n : Nat) : (s.setBitCount n).bitCountdown = s.bitCountdown := rfl
@[simp] theorem setBitCount_highTimeAccumulator (n : Nat) : (s.setBitCount n).highTimeAccumulator = s.highTimeAccumulator := rfl
@[simp] theorem setBitCount_referenceTime (n : Nat) : (s.setBitCount n).referenceTime = s.referenceTime := rfl
@[simp] theorem setBitCount_lineLevel (n : Nat) : (s.setBitCount n).lineLevel = s.lineLevel := rfl
@[simp] theorem setBitCount_rawWords (n : Nat) : (s.setBitCount n).rawWords = s.rawWords := rfl
@[simp] theorem setBitCount_packetReadyFlag (n : Nat) : (s.setBitCount n).packetReadyFlag = s.packetReadyFlag := rfl
@[simp] theorem setBitCount_packetStartTime (n : Nat) : (s.setBitCount n).packetStartTime = s.packetStartTime := rfl
@[simp] theorem setBitCount_now (n : Nat) : (s.setBitCount n).now = s.now := rfl
@[simp] theorem setBitCount_tickSource (n : Nat) : (s.setBitCount n).tickSource = s.tickSource := rfl
@[simp] theorem setBitCount_irPrev (n : Nat) : (s.setBitCount n).irPrev = s.irPrev := rfl
@[simp] theorem setBitCount_tsActions (n : Nat) : (s.setBitCount n).tsActions = s.tsActions := rfl
@[simp] theorem setBitCount_response (n : Nat) : (s.setBitCount n).response = s.response := rfl
@[simp] theorem setBitCount_params (n : Nat) : (s.setBitCount n).params = s.params := rfl
@[simp] theorem setBitCount_inputs (n : Nat) : (s.setBitCount n).inputs = s.inputs := rfl

@[simp] theorem setSilence_expectedBits (v : Word) : (s.setSilence v).expectedBits = s.expectedBits := rfl
@[simp] theorem setSilence_packetLengthMicros (v : Word) : (s.setSilence v).packetLengthMicros = s.packetLengthMicros := rfl
@[simp] theorem setSilence_postRxSilenceMicros (v : Word) : (s.setSilence v).postRxSilenceMicros = v := rfl
@[simp] theorem setSilence_channel (v : Word) : (s.setSilence v).channel = s.channel := rfl
@[simp] theorem setSilence_bitCountdown (v : Word) : (s.setSilence v).bitCountdown = s.bitCountdown := rfl
@[simp] theorem setSilence_highTimeAccumulator (v : Word) : (s.setSilence v).highTimeAccumulator = s.highTimeAccumulator := rfl
@[simp] theorem setSilence_referenceTime (v : Word) : (s.setSilence v).referenceTime = s.referenceTime := rfl
@[simp] theorem setSilence_lineLevel (v : Word) : (s.setSilence v).lineLevel = s.lineLevel := rfl
@[simp] theorem setSilence_rawWords (v : Word) : (s.setSilence v).rawWords = s.rawWords := rfl
@[simp] theorem setSilence_packetReadyFlag (v : Word) : (s.setSilence v).packetReadyFlag = s.packetReadyFlag := rfl
@[simp] theorem setSilence_packetStartTime (v : Word) : (s.setSilence v).packetStartTime = s.packetStartTime := rfl
@[simp] theorem setSilence_now (v : Word) : (s.setSilence v).now = s.now := rfl
@[simp] theorem setSilence_tickSource (v : Word) : (s.setSilence v).tickSource = s.tickSource := rfl
@[simp] theorem setSilence_irPrev (v : Word) : (s.setSilence v).irPrev = s.irPrev := rfl
@[simp] theorem setSilence_tsActions (v : Word) : (s.setSilence v).tsActions = s.tsActions := rfl
@[simp] theorem setSilence_response (v : Word) : (s.setSilence v).response = s.response := rfl
@[simp] theorem setSilence_params (v : Word) : (s.setSilence v).params = s.params := rfl
@[simp] theorem setSilence_inputs (v : Word) : (s.setSilence v).inputs = s.inputs := rfl

@[simp] theorem setChannel_expectedBits (c : BitVec 2) : (s.setChannel c).expectedBits = s.expectedBits := rfl
@[simp] theorem setChannel_packetLengthMicros (c : BitVec 2) : (s.setChannel c).packetLengthMicros = s.packetLengthMicros := rfl
@[simp] theorem setChannel_postRxSilenceMicros (c : BitVec 2) : (s.setChannel c).postRxSilenceMicros = s.postRxSilenceMicros := rfl
@[simp] theorem setChannel_channel (c : BitVec 2) : (s.setChannel c).channel = c := rfl
@[simp] theorem setChannel_bitCountdown (c : BitVec 2) : (s.setChannel c).bitCountdown = s.bitCountdown := rfl
@[simp] theorem setChannel_highTimeAccumulator (c : BitVec 2) : (s.setChannel c).highTimeAccumulator = s.highTimeAccumulator := rfl
@[simp] theorem setChannel_referenceTime (c : BitVec 2) : (s.setChannel c).referenceTime = s.referenceTime := rfl
@[simp] theorem setChannel_lineLevel (c : BitVec 2) : (s.setChannel c).lineLevel = s.lineLevel := rfl
@[simp] theorem setChannel_rawWords (c : BitVec 2) : (s.setChannel c).rawWords = s.rawWords := rfl
@[simp] theorem setChannel_packetReadyFlag (c : BitVec 2) : (s.setChannel c).packetReadyFlag = s.packetReadyFlag := rfl
@[simp] theorem setChannel_packetStartTime (c : BitVec 2) : (s.setChannel c).packetStartTime = s.packetStartTime := rfl
@[simp] theorem setChannel_now (c : BitVec 2) : (s.setChannel c).now = s.now := rfl
@[simp] theorem setChannel_tickSource (c : BitVec 2) : (s.setChannel c).tickSource = s.tickSource := rfl
@[simp] theorem setChannel_irPrev (c : BitVec 2) : (s.setChannel c).irPrev = s.irPrev := rfl
@[simp] theorem setChannel_tsActions (c : BitVec 2) : (s.setChannel c).tsActions = s.tsActions := rfl
@[simp] theorem setChannel_response (c : BitVec 2) : (s.setChannel c).response = s.response := rfl
@[simp] theorem setChannel_params (c : BitVec 2) : (s.setChannel c).params = s.params := rfl
@[simp] theorem setChannel_inputs (c : BitVec 2) : (s.setChannel c).inputs = s.inputs := rfl

@[simp] theorem respond_expectedBits (st : Status) (d : Word) : (s.respond st d).expectedBits = s.expectedBits := rfl
@[simp] theorem respond_packetLengthMicros (st : Status) (d : Word) : (s.respond st d).packetLengthMicros = s.packetLengthMicros := rfl
@[simp] theorem respond_postRxSilenceMicros (st : Status) (d : Word) : (s.respond st d).postRxSilenceMicros = s.postRxSilenceMicros := rfl
@[simp] theorem respond_channel (st : Status) (d : Word) : (s.respond st d).channel = s.channel := rfl
@[simp] theorem respond_bitCountdown (st : Status) (d : Word) : (s.respond st d).bitCountdown = s.bitCountdown := rfl
@[simp] theorem respond_highTimeAccumulator (st : Status) (d : Word) : (s.respond st d).highTimeAccumulator = s.highTimeAccumulator := rfl
@[simp] theorem respond_referenceTime (st : Status) (d : Word) : (s.respond st d).referenceTime = s.referenceTime := rfl
@[simp] theorem respond_lineLevel (st : Status) (d : Word) : (s.respond st d).lineLevel = s.lineLevel := rfl
@[simp] theorem respond_rawWords (st : Status) (d : Word) : (s.respond st d).rawWords = s.rawWords := rfl
@[simp] theorem respond_packetReadyFlag (st : Status) (d : Word) : (s.respond st d).packetReadyFlag = s.packetReadyFlag := rfl
@[simp] theorem respond_packetStartTime (st : Status) (d : Word) : (s.respond st d).packetStartTime = s.packetStartTime := rfl
@[simp] theorem respond_now (st : Status) (d : Word) : (s.respond st d).now = s.now := rfl
@[simp] theorem respond_tickSource (st : Status) (d : Word) : (s.respond st d).tickSource = s.tickSource := rfl
@[simp] theorem respond_irPrev (st : Status) (d : Word) : (s.respond st d).irPrev = s.irPrev := rfl
@[simp] theorem respond_tsActions (st : Status) (d : Word) : (s.respond st d).tsActions = s.tsActions := rfl
@[simp] theorem respond_response (st : Status) (d : Word) : (s.respond st d).response = some ⟨st, d⟩ := rfl
@[simp] theorem respond_params (st : Status) (d : Word) : (s.respond st d).params = s.params := rfl
@[simp] theorem respond_inputs (st : Status) (d : Word) : (s.respond st d).inputs = s.inputs := rfl

@[simp] theorem raise_expectedBits (st : Status) : (s.raise st).expectedBits = s.expectedBits := rfl
@[simp] theorem raise_packetLengthMicros (st : Status) : (s.raise st).packetLengthMicros = s.packetLengthMicros := rfl
@[simp] theorem raise_postRxSilenceMicros (st : Status) : (s.raise st).postRxSilenceMicros = s.postRxSilenceMicros := rfl
@[simp] theorem raise_channel (st : Status) : (s.raise st).channel = s.channel := rfl
@[simp] theorem raise_bitCountdown (st : Status) : (s.raise st).bitCountdown = s.bitCountdown := rfl
@[simp] theorem raise_highTimeAccumulator (st : Status) : (s.raise st).highTimeAccumulator = s.highTimeAccumulator := rfl
@[simp] theorem raise_referenceTime (st : Status) : (s.raise st).referenceTime = s.referenceTime := rfl
@[simp] theorem raise_lineLevel (st : Status) : (s.raise st).lineLevel = s.lineLevel := rfl
@[simp] theorem raise_rawWords (st : Status) : (s.raise st).rawWords = s.rawWords := rfl
@[simp] theorem raise_packetReadyFlag (st : Status) : (s.raise st).packetReadyFlag = s.packetReadyFlag := rfl
@[simp] theorem raise_packetStartTime (st : Status) : (s.raise st).packetStartTime = s.packetStartTime := rfl
@[simp] theorem raise_now (st : Status) : (s.raise st).now = s.now := rfl
@[simp] theorem raise_tickSource (st : Status) : (s.raise st).tickSource = s.tickSource := rfl
@[simp] theorem raise_irPrev (st : Status) : (s.raise st).irPrev = s.irPrev := rfl
@[simp] theorem raise_tsActions (st : Status) : (s.raise st).tsActions = s.tsActions := rfl
@[simp] theorem raise_response (st : Status) : (s.raise st).response = some ⟨st, 0#32⟩ := rfl
@[simp] theorem raise_params (st : Status) : (s.raise st).params = s.params := rfl
@[simp] theorem raise_inputs (st : Status) : (s.raise st).inputs = s.inputs := rfl

@[simp] theorem writeRaw_expectedBits (p : Nat) (b : Bool) : (s.writeRaw p b).expectedBits = s.expectedBits := rfl
@[simp] theorem writeRaw_packetLengthMicros (p : Nat) (b : Bool) : (s.writeRaw p b).packetLengthMicros = s.packetLengthMicros := rfl
@[simp] theorem writeRaw_postRxSilenceMicros (p : Nat) (b : Bool) : (s.writeRaw p b).postRxSilenceMicros = s.postRxSilenceMicros := rfl
@[simp] theorem writeRaw_channel (p : Nat) (b : Bool) : (s.writeRaw p b).channel = s.channel := rfl
@[simp] theorem writeRaw_bitCountdown (p : Nat) (b : Bool) : (s.writeRaw p b).bitCountdown = s.bitCountdown := rfl
@[simp] theorem writeRaw_highTimeAccumulator (p : Nat) (b : Bool) : (s.writeRaw p b).highTimeAccumulator = s.highTimeAccumulator := rfl
@[simp] theorem writeRaw_referenceTime (p : Nat) (b : Bool) : (s.writeRaw p b).referenceTime = s.referenceTime := rfl
@[simp] theorem writeRaw_lineLevel (p : Nat) (b : Bool) : (s.writeRaw p b).lineLevel = s.lineLevel := rfl
@[simp] theorem writeRaw_rawWords (p : Nat) (b : Bool) : (s.writeRaw p b).rawWords = assignRaw s.rawWords p b := rfl
@[simp] theorem writeRaw_packetReadyFlag (p : Nat) (b : Bool) : (s.writeRaw p b).packetReadyFlag = s.packetReadyFlag := rfl
@[simp] theorem writeRaw_packetStartTime (p : Nat) (b : Bool) : (s.writeRaw p b).packetStartTime = s.packetStartTime := rfl
@[simp] theorem writeRaw_now (p : Nat) (b : Bool) : (s.writeRaw p b).now = s.now := rfl
@[simp] theorem writeRaw_tickSource (p : Nat) (b : Bool) : (s.writeRaw p b).tickSource = s.tickSource := rfl
@[simp] theorem writeRaw_irPrev (p : Nat) (b : Bool) : (s.writeRaw p b).irPrev = s.irPrev := rfl
@[simp] theorem writeRaw_tsActions (p : Nat) (b : Bool) : (s.writeRaw p b).tsActions = s.tsActions := rfl
@[simp] theorem writeRaw_response (p : Nat) (b : Bool) : (s.writeRaw p b).response = s.response := rfl
@[simp] theorem writeRaw_params (p : Nat) (b : Bool) : (s.writeRaw p b).params = s.params := rfl
@[simp] theorem writeRaw_inputs (p : Nat) (b : Bool) : (s.writeRaw p b).inputs = s.inputs := rfl

@[simp] theorem closeSlot_expectedBits : (s.closeSlot).expectedBits = s.expectedBits := rfl
@[simp] theorem closeSlot_packetLengthMicros : (s.closeSlot).packetLengthMicros = s.packetLengthMicros := rfl
@[simp] theorem closeSlot_postRxSilenceMicros : (s.closeSlot).postRxSilenceMicros = s.postRxSilenceMicros := rfl
@[simp] theorem closeSlot_channel : (s.closeSlot).channel = s.channel := rfl
@[simp] theorem closeSlot_bitCountdown : (s.closeSlot).bitCountdown = s.bitCountdown := rfl
@[simp] theorem closeSlot_highTimeAccumulator : (s.closeSlot).highTimeAccumulator = 0#32 := rfl
@[simp] theorem closeSlot_referenceTime : (s.closeSlot).referenceTime = s.referenceTime := rfl
@[simp] theorem closeSlot_lineLevel : (s.closeSlot).lineLevel = s.lineLevel := rfl
@[simp] theorem closeSlot_rawWords : (s.closeSlot).rawWords = assignRaw s.rawWords s.bitCountdown.toNat (classify s.highTimeAccumulator) := rfl
@[simp] theorem closeSlot_packetReadyFlag : (s.closeSlot).packetReadyFlag = s.packetReadyFlag := rfl
@[simp] theorem closeSlot_packetStartTime : (s.closeSlot).packetStartTime = s.packetStartTime := rfl
@[simp] theorem closeSlot_now : (s.closeSlot).now = s.now := rfl
@[simp] theorem closeSlot_tickSource : (s.closeSlot).tickSource = s.tickSource := rfl
@[simp] theorem closeSlot_irPrev : (s.closeSlot).irPrev = s.irPrev := rfl
@[simp] theorem closeSlot_tsActions : (s.closeSlot).tsActions = s.tsActions := rfl
@[simp] theorem closeSlot_response : (s.closeSlot).response = s.response := rfl
@[simp] theorem closeSlot_params : (s.closeSlot).params = s.params := rfl
@[simp] theorem closeSlot_inputs : (s.closeSlot).inputs = s.inputs := rfl

@[simp] theorem addHighTime_expectedBits (t : Word) : (s.addHighTime t).expectedBits = s.expectedBits := rfl
@[simp] theorem addHighTime_packetLengthMicros (t : Word) : (s.addHighTime t).packetLengthMicros = s.packetLengthMicros := rfl
@[simp] theorem addHighTime_postRxSilenceMicros (t : Word) : (s.addHighTime t).postRxSilenceMicros = s.postRxSilenceMicros := rfl
@[simp] theorem addHighTime_channel (t : Word) : (s.addHighTime t).channel = s.channel := rfl
@[simp] theorem addHighTime_bitCountdown (t : Word) : (s.addHighTime t).bitCountdown = s.bitCountdown := rfl
@[simp] theorem addHighTime_highTimeAccumulator (t : Word) : (s.addHighTime t).highTimeAccumulator = s.highTimeAccumulator + t := rfl
@[simp] theorem addHighTime_referenceTime (t : Word) : (s.addHighTime t).referenceTime = s.referenceTime := rfl
@[simp] theorem addHighTime_lineLevel (t : Word) : (s.addHighTime t).lineLevel = s.lineLevel := rfl
@[simp] theorem addHighTime_rawWords (t : Word) : (s.addHighTime t).rawWords = s.rawWords := rfl
@[simp] theorem addHighTime_packetReadyFlag (t : Word) : (s.addHighTime t).packetReadyFlag = s.packetReadyFlag := rfl
@[simp] theorem addHighTime_packetStartTime (t : Word) : (s.addHighTime t).packetStartTime = s.packetStartTime := rfl
@[simp] theorem addHighTime_now (t : Word) : (s.addHighTime t).now = s.now := rfl
@[simp] theorem addHighTime_tickSource (t : Word) : (s.addHighTime t).tickSource = s.tickSource := rfl
@[simp] theorem addHighTime_irPrev (t : Word) : (s.addHighTime t).irPrev = s.irPrev := rfl
@[simp] theorem addHighTime_tsActions (t : Word) : (s.addHighTime t).tsActions = s.tsActions := rfl
@[simp] theorem addHighTime_response (t : Word) : (s.addHighTime t).response = s.response := rfl
@[simp] theorem addHighTime_params (t : Word) : (s.addHighTime t).params = s.params := rfl
@[simp] theorem addHighTime_inputs (t : Word) : (s.addHighTime t).inputs = s.inputs := rfl

@[simp] theorem observeEdge_expectedBits (l : Level) : (s.observeEdge l).expectedBits = s.expectedBits := rfl
@[simp] theorem observeEdge_packetLengthMicros (l : Level) : (s.observeEdge l).packetLengthMicros = s.packetLengthMicros := rfl
@[simp] theorem observeEdge_postRxSilenceMicros (l : Level) : (s.observeEdge l).postRxSilenceMicros = s.postRxSilenceMicros := rfl
@[simp] theorem observeEdge_channel (l : Level) : (s.observeEdge l).channel = s.channel := rfl
@[simp] theorem observeEdge_bitCountdown (l : Level) : (s.observeEdge l).bitCountdown = s.bitCountdown := rfl
@[simp] theorem observeEdge_highTimeAccumulator (l : Level) : (s.observeEdge l).highTimeAccumulator = s.highTimeAccumulator := rfl
@[simp] theorem observeEdge_referenceTime (l : Level) : (s.observeEdge l).referenceTime = s.now := rfl
@[simp] theorem observeEdge_lineLevel (l : Level) : (s.observeEdge l).lineLevel = l := rfl
@[simp] theorem observeEdge_rawWords (l : Level) : (s.observeEdge l).rawWords = s.rawWords := rfl
@[simp] theorem observeEdge_packetReadyFlag (l : Level) : (s.observeEdge l).packetReadyFlag = s.packetReadyFlag := rfl
@[simp] theorem observeEdge_packetStartTime (l : Level) : (s.observeEdge l).packetStartTime = s.packetStartTime := rfl
@[simp] theorem observeEdge_now (l : Level) : (s.observeEdge l).now = s.now := rfl
@[simp] theorem observeEdge_tickSource (l : Level) : (s.observeEdge l).tickSource = s.tickSource := rfl
@[simp] theorem observeEdge_irPrev (l : Level) : (s.observeEdge l).irPrev = s.irPrev := rfl
@[simp] theorem observeEdge_tsActions (l : Level) : (s.observeEdge l).tsActions = s.tsActions := rfl
@[simp] theorem observeEdge_response (l : Level) : (s.observeEdge l).response = s.response := rfl
@[simp] theorem observeEdge_params (l : Level) : (s.observeEdge l).params = s.params := rfl
@[simp] theorem observeEdge_inputs (l : Level) : (s.observeEdge l).inputs = s.inputs := rfl

@[simp] theorem arm_expectedBits : (s.arm).expectedBits = s.expectedBits := rfl
@[simp] theorem arm_packetLengthMicros : (s.arm).packetLengthMicros = s.packetLengthMicros := rfl
@[simp] theorem arm_postRxSilenceMicros : (s.arm).postRxSilenceMicros = s.postRxSilenceMicros := rfl
@[simp] theorem arm_channel : (s.arm).channel = s.channel := rfl
@[simp] theorem arm_bitCountdown : (s.arm).bitCountdown = armCount s.expectedBits := rfl
@[simp] theorem arm_highTimeAccumulator : (s.arm).highTimeAccumulator = s.highTimeAccumulator := rfl
@[simp] theorem arm_referenceTime : (s.arm).referenceTime = s.referenceTime := rfl
@[simp] theorem arm_lineLevel : (s.arm).lineLevel = s.lineLevel := rfl
@[simp] theorem arm_rawWords : (s.arm).rawWords = s.rawWords := rfl
@[simp] theorem arm_packetReadyFlag : (s.arm).packetReadyFlag = s.packetReadyFlag := rfl
@[simp] theorem arm_packetStartTime : (s.arm).packetStartTime = s.packetStartTime := rfl
@[simp] theorem arm_now : (s.arm).now = s.now := rfl
@[simp] theorem arm_tickSource : (s.arm).tickSource = s.tickSource := rfl
@[simp] theorem arm_irPrev : (s.arm).irPrev = s.irPrev := rfl
@[simp] theorem arm_tsActions : (s.arm).tsActions = ⟨true, some startTickUs, true, s.tsActions.disable⟩ := rfl
@[simp] theorem arm_response : (s.arm).response = s.response := rfl
@[simp] theorem arm_params : (s.arm).params = s.params := rfl
@[simp] theorem arm_inputs : (s.arm).inputs = s.inputs := rfl

@[simp] theorem abortCapture_expectedBits : (s.abortCapture).expectedBits = s.expectedBits := rfl
@[simp] theorem abortCapture_packetLengthMicros : (s.abortCapture).packetLengthMicros = s.packetLengthMicros := rfl
@[simp] theorem abortCapture_postRxSilenceMicros : (s.abortCapture).postRxSilenceMicros = s.postRxSilenceMicros := rfl
@[simp] theorem abortCapture_channel : (s.abortCapture).channel = s.channel := rfl
@[simp] theorem abortCapture_bitCountdown : (s.abortCapture).bitCountdown = 0#7 := rfl
@[simp] theorem abortCapture_highTimeAccumulator : (s.abortCapture).highTimeAccumulator = 0#32 := rfl
@[simp] theorem abortCapture_referenceTime : (s.abortCapture).referenceTime = s.referenceTime - s.postRxSilenceMicros := rfl
@[simp] theorem abortCapture_lineLevel : (s.abortCapture).lineLevel = s.lineLevel := rfl
@[simp] theorem abortCapture_rawWords : (s.abortCapture).rawWords = s.rawWords := rfl
@[simp] theorem abortCapture_packetReadyFlag : (s.abortCapture).packetReadyFlag = s.packetReadyFlag := rfl
@[simp] theorem abortCapture_packetStartTime : (s.abortCapture).packetStartTime = s.packetStartTime := rfl
@[simp] theorem abortCapture_now : (s.abortCapture).now = s.now := rfl
@[simp] theorem abortCapture_tickSource : (s.abortCapture).tickSource = s.tickSource := rfl
@[simp] theorem abortCapture_irPrev : (s.abortCapture).irPrev = s.irPrev := rfl
@[simp] theorem abortCapture_tsActions : (s.abortCapture).tsActions = { s.tsActions with disable := true } := rfl
@[simp] theorem abortCapture_response : (s.abortCapture).response = s.response := rfl
@[simp] theorem abortCapture_params : (s.abortCapture).params = s.params := rfl
@[simp] theorem abortCapture_inputs : (s.abortCapture).inputs = s.inputs := rfl

@[simp] theorem acceptStart_expectedBits : (s.acceptStart).expectedBits = s.expectedBits := rfl
@[simp] theorem acceptStart_packetLengthMicros : (s.acceptStart).packetLengthMicros = s.packetLengthMicros := rfl
@[simp] theorem acceptStart_postRxSilenceMicros : (s.acceptStart).postRxSilenceMicros = s.postRxSilenceMicros := rfl
@[simp] theorem acceptStart_channel : (s.acceptStart).channel = s.channel := rfl
@[simp] theorem acceptStart_bitCountdown : (s.acceptStart).bitCountdown = s.bitCountdown := rfl
@[simp] theorem acceptStart_highTimeAccumulator : (s.acceptStart).highTimeAccumulator = 0#32 := rfl
@[simp] theorem acceptStart_referenceTime : (s.acceptStart).referenceTime = s.referenceTime := rfl
@[simp] theorem acceptStart_lineLevel : (s.acceptStart).lineLevel = s.lineLevel := rfl
@[simp] theorem acceptStart_rawWords : (s.acceptStart).rawWords = s.rawWords := rfl
@[simp] theorem acceptStart_packetReadyFlag : (s.acceptStart).packetReadyFlag = s.packetReadyFlag := rfl
@[simp] theorem acceptStart_packetStartTime : (s.acceptStart).packetStartTime = s.packetStartTime := rfl
@[simp] theorem acceptStart_now : (s.acceptStart).now = s.now := rfl
@[simp] theorem acceptStart_tickSource : (s.acceptStart).tickSource = s.tickSource := rfl
@[simp] theorem acceptStart_irPrev : (s.acceptStart).irPrev = s.irPrev := rfl
@[simp] theorem acceptStart_tsActions : (s.acceptStart).tsActions = { s.tsActions with setInterval := some dataTickUs } := rfl
@[simp] theorem acceptStart_response : (s.acceptStart).response = s.response := rfl
@[simp] theorem acceptStart_params : (s.acceptStart).params = s.params := rfl
@[simp] theorem acceptStart_inputs : (s.acceptStart).inputs = s.inputs := rfl

@[simp] theorem publish_expectedBits : (s.publish).expectedBits = s.expectedBits := rfl
@[simp] theorem publish_packetLengthMicros : (s.publish).packetLengthMicros = s.packetLengthMicros := rfl
@[simp] theorem publish_postRxSilenceMicros : (s.publish).postRxSilenceMicros = s.postRxSilenceMicros := rfl
@[simp] theorem publish_channel : (s.publish).channel = s.channel := rfl
@[simp] theorem publish_bitCountdown : (s.publish).bitCountdown = s.bitCountdown := rfl
@[simp] theorem publish_highTimeAccumulator : (s.publish).highTimeAccumulator = s.highTimeAccumulator := rfl
@[simp] theorem publish_referenceTime : (s.publish).referenceTime = s.referenceTime := rfl
@[simp] theorem publish_lineLevel : (s.publish).lineLevel = s.lineLevel := rfl
@[simp] theorem publish_rawWords : (s.publish).rawWords = s.rawWords := rfl
@[simp] theorem publish_packetReadyFlag : (s.publish).packetReadyFlag = true := rfl
@[simp] theorem publish_packetStartTime : (s.publish).packetStartTime = s.referenceTime - s.packetLengthMicros := rfl
@[simp] theorem publish_now : (s.publish).now = s.now := rfl
@[simp] theorem publish_tickSource : (s.publish).tickSource = s.tickSource := rfl
@[simp] theorem publish_irPrev : (s.publish).irPrev = s.irPrev := rfl
@[simp] theorem publish_tsActions : (s.publish).tsActions = { s.tsActions with disable := true } := rfl
@[simp] theorem publish_response : (s.publish).response = s.response := rfl
@[simp] theorem publish_params : (s.publish).params = s.params := rfl
@[simp] theorem publish_inputs : (s.publish).inputs = s.inputs := rfl

@[simp] theorem resetRegisters_expectedBits : (s.resetRegisters).expectedBits = 17#6 := rfl
@[simp] theorem resetRegisters_packetLengthMicros : (s.resetRegisters).packetLengthMicros = 13601#32 := rfl
@[simp] theorem resetRegisters_postRxSilenceMicros : (s.resetRegisters).postRxSilenceMicros = 24799#32 := rfl
@[simp] theorem resetRegisters_channel : (s.resetRegisters).channel = s.params.channelReset := rfl
@[simp] theorem resetRegisters_bitCountdown : (s.resetRegisters).bitCountdown = 0#7 := rfl
@[simp] theorem resetRegisters_highTimeAccumulator : (s.resetRegisters).highTimeAccumulator = 0#32 := rfl
@[simp] theorem resetRegisters_referenceTime : (s.resetRegisters).referenceTime = s.params.referenceTimeReset := rfl
@[simp] theorem resetRegisters_lineLevel : (s.resetRegisters).lineLevel = .high := rfl
@[simp] theorem resetRegisters_rawWords : (s.resetRegisters).rawWords = #v[0#32, 0#32] := rfl
@[simp] theorem resetRegisters_packetReadyFlag : (s.resetRegisters).packetReadyFlag = false := rfl
@[simp] theorem resetRegisters_packetStartTime : (s.resetRegisters).packetStartTime = s.params.packetStartTimeReset := rfl
@[simp] theorem resetRegisters_now : (s.resetRegisters).now = s.now := rfl
@[simp] theorem resetRegisters_tickSource : (s.resetRegisters).tickSource = s.tickSource := rfl
@[simp] theorem resetRegisters_irPrev : (s.resetRegisters).irPrev = s.irPrev := rfl
@[simp] theorem resetRegisters_tsActions : (s.resetRegisters).tsActions = { s.tsActions with disable := true } := rfl
@[simp] theorem resetRegisters_response : (s.resetRegisters).response = s.response := rfl
@[simp] theorem resetRegisters_params : (s.resetRegisters).params = s.params := rfl
@[simp] theorem resetRegisters_inputs : (s.resetRegisters).inputs = s.inputs := rfl

@[simp] theorem beginCycle_expectedBits : (s.beginCycle).expectedBits = s.expectedBits := rfl
@[simp] theorem beginCycle_packetLengthMicros : (s.beginCycle).packetLengthMicros = s.packetLengthMicros := rfl
@[simp] theorem beginCycle_postRxSilenceMicros : (s.beginCycle).postRxSilenceMicros = s.postRxSilenceMicros := rfl
@[simp] theorem beginCycle_channel : (s.beginCycle).channel = s.channel := rfl
@[simp] theorem beginCycle_bitCountdown : (s.beginCycle).bitCountdown = s.bitCountdown := rfl
@[simp] theorem beginCycle_highTimeAccumulator : (s.beginCycle).highTimeAccumulator = s.highTimeAccumulator := rfl
@[simp] theorem beginCycle_referenceTime : (s.beginCycle).referenceTime = s.referenceTime := rfl
@[simp] theorem beginCycle_lineLevel : (s.beginCycle).lineLevel = s.lineLevel := rfl
@[simp] theorem beginCycle_rawWords : (s.beginCycle).rawWords = s.rawWords := rfl
@[simp] theorem beginCycle_packetReadyFlag : (s.beginCycle).packetReadyFlag = s.packetReadyFlag := rfl
@[simp] theorem beginCycle_packetStartTime : (s.beginCycle).packetStartTime = s.packetStartTime := rfl
@[simp] theorem beginCycle_now : (s.beginCycle).now = s.samplePins.now := rfl
@[simp] theorem beginCycle_tickSource : (s.beginCycle).tickSource = s.countedTickSource := rfl
@[simp] theorem beginCycle_irPrev : (s.beginCycle).irPrev = s.nextIrPrev := rfl
@[simp] theorem beginCycle_tsActions : (s.beginCycle).tsActions = TsActions.none := rfl
@[simp] theorem beginCycle_response : (s.beginCycle).response = none := rfl
@[simp] theorem beginCycle_params : (s.beginCycle).params = s.params := rfl
@[simp] theorem beginCycle_inputs : (s.beginCycle).inputs = s.inputs.tail := rfl

@[simp] theorem endCycle_expectedBits (r : BitVec 1) : (s.endCycle r).expectedBits = s.expectedBits := rfl
@[simp] theorem endCycle_packetLengthMicros (r : BitVec 1) : (s.endCycle r).packetLengthMicros = s.packetLengthMicros := rfl
@[simp] theorem endCycle_postRxSilenceMicros (r : BitVec 1) : (s.endCycle r).postRxSilenceMicros = s.postRxSilenceMicros := rfl
@[simp] theorem endCycle_channel (r : BitVec 1) : (s.endCycle r).channel = s.channel := rfl
@[simp] theorem endCycle_bitCountdown (r : BitVec 1) : (s.endCycle r).bitCountdown = s.bitCountdown := rfl
@[simp] theorem endCycle_highTimeAccumulator (r : BitVec 1) : (s.endCycle r).highTimeAccumulator = s.highTimeAccumulator := rfl
@[simp] theorem endCycle_referenceTime (r : BitVec 1) : (s.endCycle r).referenceTime = s.referenceTime := rfl
@[simp] theorem endCycle_lineLevel (r : BitVec 1) : (s.endCycle r).lineLevel = s.lineLevel := rfl
@[simp] theorem endCycle_rawWords (r : BitVec 1) : (s.endCycle r).rawWords = s.rawWords := rfl
@[simp] theorem endCycle_packetReadyFlag (r : BitVec 1) : (s.endCycle r).packetReadyFlag = s.packetReadyFlag := rfl
@[simp] theorem endCycle_packetStartTime (r : BitVec 1) : (s.endCycle r).packetStartTime = s.packetStartTime := rfl
@[simp] theorem endCycle_now (r : BitVec 1) : (s.endCycle r).now = s.now := rfl
@[simp] theorem endCycle_tickSource (r : BitVec 1) : (s.endCycle r).tickSource = if r = 1#1 then TickSource.atReset else s.tickSource.apply s.tsActions := rfl
@[simp] theorem endCycle_irPrev (r : BitVec 1) : (s.endCycle r).irPrev = s.irPrev := rfl
@[simp] theorem endCycle_tsActions (r : BitVec 1) : (s.endCycle r).tsActions = s.tsActions := rfl
@[simp] theorem endCycle_response (r : BitVec 1) : (s.endCycle r).response = s.response := rfl
@[simp] theorem endCycle_params (r : BitVec 1) : (s.endCycle r).params = s.params := rfl
@[simp] theorem endCycle_inputs (r : BitVec 1) : (s.endCycle r).inputs = s.inputs := rfl

@[simp] theorem observeTick_expectedBits : s.observeTick.expectedBits = s.expectedBits := by
  unfold State.observeTick; split <;> rfl
@[simp] theorem observeTick_packetLengthMicros : s.observeTick.packetLengthMicros = s.packetLengthMicros := by
  unfold State.observeTick; split <;> rfl
@[simp] theorem observeTick_postRxSilenceMicros : s.observeTick.postRxSilenceMicros = s.postRxSilenceMicros := by
  unfold State.observeTick; split <;> rfl
@[simp] theorem observeTick_channel : s.observeTick.channel = s.channel := by
  unfold State.observeTick; split <;> rfl
@[simp] theorem observeTick_bitCountdown : s.observeTick.bitCountdown = s.bitCountdown - 1#7 := by
  unfold State.observeTick; split <;> rfl
@[simp] theorem observeTick_highTimeAccumulator : s.observeTick.highTimeAccumulator =
    if s.lineLevel = .high then s.highTimeAccumulator + s.elapsed else s.highTimeAccumulator := by
  unfold State.observeTick; split <;> rfl
@[simp] theorem observeTick_referenceTime : s.observeTick.referenceTime = s.now := by
  unfold State.observeTick; split <;> rfl
@[simp] theorem observeTick_lineLevel : s.observeTick.lineLevel = s.lineLevel := by
  unfold State.observeTick; split <;> rfl
@[simp] theorem observeTick_rawWords : s.observeTick.rawWords = s.rawWords := by
  unfold State.observeTick; split <;> rfl
@[simp] theorem observeTick_packetReadyFlag : s.observeTick.packetReadyFlag = s.packetReadyFlag := by
  unfold State.observeTick; split <;> rfl
@[simp] theorem observeTick_packetStartTime : s.observeTick.packetStartTime = s.packetStartTime := by
  unfold State.observeTick; split <;> rfl
@[simp] theorem observeTick_now : s.observeTick.now = s.now := by
  unfold State.observeTick; split <;> rfl
@[simp] theorem observeTick_tickSource : s.observeTick.tickSource = s.tickSource := by
  unfold State.observeTick; split <;> rfl
@[simp] theorem observeTick_irPrev : s.observeTick.irPrev = s.irPrev := by
  unfold State.observeTick; split <;> rfl
@[simp] theorem observeTick_tsActions : s.observeTick.tsActions = s.tsActions := by
  unfold State.observeTick; split <;> rfl
@[simp] theorem observeTick_response : s.observeTick.response = s.response := by
  unfold State.observeTick; split <;> rfl
@[simp] theorem observeTick_params : s.observeTick.params = s.params := by
  unfold State.observeTick; split <;> rfl
@[simp] theorem observeTick_inputs : s.observeTick.inputs = s.inputs := by
  unfold State.observeTick; split <;> rfl

end Sys2Proof.Machine
end

