-- ==== Sys2Proof/Laws/Raw.lean ====
section
/-! SUPPORT. Raw positions: reading after writing one bit (R178), and the pairing loop (R203, R204). -/

namespace Sys2Proof.Machine

open Sys2Proof.Config

theorem getLsbD_assignBit (w : RawWord) (p q : Nat) (b : Bool) (hp : p < 32) :
    (assignBit w p b).getLsbD q = if q = p then b else w.getLsbD q := by
  have hqp : decide (p = q) = decide (q = p) := by simp [eq_comm]
  by_cases hq : q < 32
  · cases b
    · simp only [assignBit, Bool.false_eq_true, if_false, BitVec.getLsbD_and, BitVec.getLsbD_not, BitVec.getLsbD_twoPow,
        wordW, hp, hq, hqp, decide_true, Bool.true_and]
      by_cases h : q = p <;> simp [h]
    · simp only [assignBit, if_true, BitVec.getLsbD_or, BitVec.getLsbD_twoPow, wordW, hp, hqp, decide_true, Bool.true_and]
      by_cases h : q = p <;> simp [h]
  · have hne : q ≠ p := by omega
    rw [if_neg hne, BitVec.getLsbD_of_ge _ _ (Nat.le_of_not_lt hq), BitVec.getLsbD_of_ge _ _ (Nat.le_of_not_lt hq)]

/-- What one raw write does to every raw position. -/
theorem rawBit_assignRaw (ws : RawWords) (p q : Nat) (b : Bool) (hp : p < 64) :
    rawBit (assignRaw ws p b) q = if q = p then b else rawBit ws q := by
  have hw : p / wordW < numRawWords := by simp only [wordW, numRawWords]; omega
  simp only [rawBit, assignRaw, hw, dif_pos]
  split
  · simp only [Vector.getElem_set]
    split
    · rename_i e
      rw [getLsbD_assignBit _ _ _ _ (Nat.mod_lt _ (by decide))]
      have : q % wordW = p % wordW ↔ q = p := by simp only [wordW] at e ⊢; omega
      simp only [this, e]
    · rename_i e
      rw [if_neg (fun h => e (by rw [h]))]
  · rename_i h
    rw [if_neg (fun e => h (by rw [e]; exact hw))]

theorem raw_writeRaw (s : State) (p q : Nat) (b : Bool) (hp : p < 64) :
    (s.writeRaw p b).raw q = if q = p then b else s.raw q :=
  rawBit_assignRaw s.rawWords p q b hp

/-- A state's raw positions are a function of its raw words. -/
theorem raw_congr {s t : State} (h : t.rawWords = s.rawWords) (p : Nat) : t.raw p = s.raw p := by
  simp [State.raw, h]

theorem raw_closeSlot (s : State) (q : Nat) (hp : s.bitCountdown.toNat < 64) :
    s.closeSlot.raw q = if q = s.bitCountdown.toNat then classify s.highTimeAccumulator else s.raw q :=
  raw_writeRaw s _ q _ hp

theorem pairBit_eq_some {a b d : Bool} : pairBit a b = some d ↔ a = d ∧ b = !d := by
  cases a <;> cases b <;> cases d <;> decide

theorem pairBit_eq_none {a b : Bool} : pairBit a b = none ↔ a = b := by
  cases a <;> cases b <;> decide

/-- The pairing reads raw positions below `2·n` only. -/
theorem decodePairs_congr {ws us : RawWords} {n : Nat}
    (h : ∀ p, p < 2 * n → rawBit us p = rawBit ws p) (v : Word) :
    decodePairs us n v = decodePairs ws n v := by
  induction n generalizing v with
  | zero => rfl
  | succ n ih =>
    simp only [decodePairs, h (2 * n + 1) (by omega), h (2 * n) (by omega)]
    split
    · exact ih (fun p hp => h p (by omega)) _
    · rfl

/-- One bad pair ends the pairing without a value. -/
theorem decodePairs_eq_none {ws : RawWords} {n j : Nat} (hj : j < n)
    (h : rawBit ws (2 * j + 1) = rawBit ws (2 * j)) (v : Word) : decodePairs ws n v = none := by
  induction n generalizing v with
  | zero => omega
  | succ n ih =>
    simp only [decodePairs]
    by_cases e : j = n
    · subst e
      simp [pairBit_eq_none.mpr h]
    · split
      · exact ih (by omega) _
      · rfl

/-- The pairs of the low `n` bits of `v` append those bits to what is assembled. -/
theorem decodePairs_eq_some {ws : RawWords} {n : Nat} (v : Nat)
    (h : ∀ j, j < n → rawBit ws (2 * j + 1) = v.testBit j ∧ rawBit ws (2 * j) = !v.testBit j) (a : Nat) :
    decodePairs ws n (BitVec.ofNat 32 a) = some (BitVec.ofNat 32 (a * 2 ^ n + v % 2 ^ n)) := by
  induction n generalizing a with
  | zero => simp [decodePairs, Nat.mod_one]
  | succ n ih =>
    have hn := h n (by omega)
    have e : pairBit (rawBit ws (2 * n + 1)) (rawBit ws (2 * n)) = some (v.testBit n) :=
      pairBit_eq_some.mpr hn
    simp only [decodePairs, e]
    have step : (BitVec.ofNat 32 a <<< 1 ||| (BitVec.ofBool (v.testBit n)).setWidth 32) =
        BitVec.ofNat 32 (2 * a + (v.testBit n).toNat) := by
      have e2 : 2 * a + (v.testBit n).toNat = a <<< 1 ||| (v.testBit n).toNat := by
        rw [Nat.shiftLeft_eq, pow_one, Nat.mul_comm a 2]
        exact Nat.two_pow_add_eq_or_of_lt (i := 1) (Bool.toNat_lt _) a
      apply BitVec.eq_of_getLsbD_eq
      intro i hi
      rw [e2, BitVec.getLsbD_ofNat, Nat.testBit_or, Nat.testBit_shiftLeft]
      simp only [BitVec.getLsbD_or, BitVec.getLsbD_shiftLeft, BitVec.getLsbD_setWidth, BitVec.getLsbD_ofBool,
        BitVec.getLsbD_ofNat]
      rcases Nat.eq_zero_or_pos i with h0 | h0
      · subst h0
        cases v.testBit n <;> simp
      · have : 1 ≤ i := h0
        have hne : i ≠ 0 := by omega
        have hb : (v.testBit n).toNat.testBit i = false :=
          Nat.testBit_lt_two_pow (lt_of_lt_of_le (Bool.toNat_lt _) (by
            calc 2 = 2 ^ 1 := rfl
              _ ≤ 2 ^ i := Nat.pow_le_pow_right (by decide) this))
        simp only [hb, hi, hne, decide_true, decide_false, Bool.true_and, Bool.false_and, Bool.or_false,
          show ¬ i < 1 by omega, show i - 1 < 32 by omega, Bool.not_false, this]
    rw [step, ih (fun j hj => h j (by omega))]
    congr 2
    have hmod : v % 2 ^ (n + 1) = (v.testBit n).toNat * 2 ^ n + v % 2 ^ n := by
      rw [Nat.mod_pow_succ, Nat.testBit_eq_decide_div_mod_eq]
      rcases Nat.mod_two_eq_zero_or_one (v / 2 ^ n) with h1 | h1 
      · simp [h1]
      · simp [h1, Nat.add_comm]
    rw [hmod, pow_succ]
    ring

end Sys2Proof.Machine
end

