-- ==== Sys2Proof/Laws/Capture.lean ====
section
/-! SUPPORT. Once for each meaning: every way it can end. Provers cite these and need not unfold a meaning. -/

namespace Sys2Proof.Machine

open Sys2Proof.Config

theorem slotCount_toNat (n : BitVec 6) : (slotCount n).toNat = 2 * n.toNat := by
  have := n.isLt
  simp only [slotCount, BitVec.toNat_ofNat]
  omega

theorem armCount_toNat (n : BitVec 6) : (armCount n).toNat = 2 * n.toNat + 1 := by
  have := n.isLt
  simp only [armCount, BitVec.toNat_ofNat]
  omega

theorem countdown_pred_toNat {c : BitVec 7} (h : c ≠ 0#7) : (c - 1#7).toNat = c.toNat - 1 := by
  have h0 : c.toNat ≠ 0 := fun e => h (BitVec.eq_of_toNat_eq (by simpa using e))
  have := c.isLt
  simp only [BitVec.toNat_sub, BitVec.toNat_ofNat]
  omega

/-- The derived lengths in numbers, for legal `n` (R132, R133). -/
theorem packetLength_toNat {n : Nat} (h : n ≤ 32) : (packetLength n).toNat = 800 * n + 1 := by
  simp only [packetLength, bitPeriodUs, packetLenOffsetUs, BitVec.toNat_ofNat]
  omega

theorem postRxSilence_toNat {n : Nat} (h : n ≤ 32) : (postRxSilence n).toNat = 38399 - 800 * n := by
  simp only [postRxSilence, BitVec.toNat_sub, packetLength_toNat h, framePeriodUs, silenceMarginUs, BitVec.toNat_ofNat]
  omega

theorem between_closed (lo hi h : Nat) : between true lo hi h = true ↔ lo ≤ h ∧ h ≤ hi := by
  simp [between]

theorem between_open (lo hi h : Nat) : between false lo hi h = true ↔ lo < h ∧ h < hi := by
  simp [between]

/-- The first tick is the one that finds the arming count (R173). -/
theorem first_tick_iff {c : BitVec 7} (n : BitVec 6) (h : c ≠ 0#7) :
    c - 1#7 = slotCount n ↔ c.toNat = 2 * n.toNat + 1 := by
  have h0 : c.toNat ≠ 0 := fun e => h (BitVec.eq_of_toNat_eq (by simpa using e))
  rw [← BitVec.toNat_inj, countdown_pred_toNat h, slotCount_toNat]
  omega

/-- The three branches of `EDGE` (R152). -/
theorem execEdge_cases {l : Level} {s t : State} (h : execEdge l s = .next t) :
    (s.bitCountdown ≠ 0#7 ∧ l = .low ∧ t = (s.observeEdge l).addHighTime s.elapsed) ∨
    (s.bitCountdown = 0#7 ∧ l = .low ∧ s.postRxSilenceMicros < s.elapsed ∧ t = (s.observeEdge l).arm) ∨
    ((l = .high ∨ (s.bitCountdown = 0#7 ∧ ¬ s.postRxSilenceMicros < s.elapsed)) ∧ t = s.observeEdge l) := by
  unfold execEdge at h
  dsimp only at h
  split at h
  · rename_i c
    cases h
    exact .inl ⟨c.1, c.2, rfl⟩
  · rename_i c
    split at h
    · rename_i c2
      cases h
      exact .inr (.inl ⟨by simpa [c2.1] using c, c2.1, c2.2, rfl⟩)
    · rename_i c2
      cases h
      refine .inr (.inr ⟨?_, rfl⟩)
      cases l
      · exact .inr ⟨by simpa using c, by simpa using c2⟩
      · exact .inl rfl

/-- The four branches of `TICK` (R173). -/
theorem execTick_cases {s t : State} (h : execTick s = .next t) :
    (s.bitCountdown = 0#7 ∧ t = s) ∨
    (s.bitCountdown ≠ 0#7 ∧ s.bitCountdown.toNat = 2 * s.expectedBits.toNat + 1 ∧
      inWindow s.params.windowClosed s.channel s.observeTick.highTimeAccumulator = true ∧
      t = s.observeTick.acceptStart) ∨
    (s.bitCountdown ≠ 0#7 ∧ s.bitCountdown.toNat = 2 * s.expectedBits.toNat + 1 ∧
      inWindow s.params.windowClosed s.channel s.observeTick.highTimeAccumulator = false ∧
      t = s.observeTick.abortCapture) ∨
    (s.bitCountdown ≠ 0#7 ∧ s.bitCountdown.toNat ≠ 2 * s.expectedBits.toNat + 1 ∧ s.bitCountdown.toNat ≠ 1 ∧
      t = s.observeTick.closeSlot) ∨
    (s.bitCountdown = 1#7 ∧ s.bitCountdown.toNat ≠ 2 * s.expectedBits.toNat + 1 ∧
      t = s.observeTick.closeSlot.publish) := by
  unfold execTick at h
  dsimp only at h
  split at h
  · rename_i c
    cases h
    exact .inl ⟨c, rfl⟩
  · rename_i c
    simp only [observeTick_bitCountdown, first_tick_iff _ c] at h
    split at h
    · rename_i f
      cases h
      unfold State.startTick
      cases w : inWindow s.params.windowClosed s.channel s.observeTick.highTimeAccumulator
      · exact .inr (.inr (.inl ⟨c, f, rfl, by simp only [observeTick_params, observeTick_channel, w]; rfl⟩))
      · exact .inr (.inl ⟨c, f, rfl, by simp only [observeTick_params, observeTick_channel, w]; rfl⟩)
    · rename_i f
      cases h
      unfold State.slotTick
      by_cases o : s.bitCountdown = 1#7
      · refine .inr (.inr (.inr (.inr ⟨o, f, ?_⟩)))
        simp [o]
      · have o' : s.bitCountdown - 1#7 ≠ 0#7 := by
          intro e
          exact o (by simpa using (BitVec.sub_eq_iff_eq_add.mp e))
        refine .inr (.inr (.inr (.inl ⟨c, f, fun e => o (BitVec.eq_of_toNat_eq (by simpa using e)), ?_⟩)))
        simp [o']

/-- `CHECK_DATA` writes the flag and the response (R206). -/
theorem execCheckData_eq (s : State) :
    execCheckData s = .next { s with
      packetReadyFlag := false
      response := some (if s.packetReadyFlag then
        (match decodePairs s.rawWords s.expectedBits.toNat 0#32 with
          | some v => ⟨.ok, v⟩
          | none => ⟨.invalid, 0#32⟩) else ⟨.noData, 0#32⟩) } := by
  unfold execCheckData
  cases h : s.packetReadyFlag
  · cases s
    simp only at h
    subst h
    rfl
  · simp only [if_true, State.decodeSample]
    cases hd : decodePairs s.rawWords s.expectedBits.toNat 0#32 <;>
      simp [State.setReadyFlag, State.respond, State.raise, hd]

theorem legalExpectedBits_iff (n : Nat) : legalExpectedBits n = true ↔ 1 ≤ n ∧ n ≤ 32 := by
  simp only [legalExpectedBits, Bool.and_eq_true, decide_eq_true_eq]
  rfl

/-- `SET_EXPECTED_BITS` ends in one of three ways (R131). -/
theorem execSetExpectedBits_cases {n : Nat} {s t : State} (h : execSetExpectedBits n s = .next t) :
    ((n = 0 ∨ 32 < n) ∧ t = s.raise .errIllegal) ∨
    (1 ≤ n ∧ n ≤ 32 ∧ s.bitCountdown ≠ 0#7 ∧ t = s.raise .errBusy) ∨
    (1 ≤ n ∧ n ≤ 32 ∧ s.bitCountdown = 0#7 ∧ t = (s.setBitCount n).respond .ok 0#32) := by
  unfold execSetExpectedBits at h
  split at h
  · rename_i c
    cases h
    refine .inl ⟨?_, rfl⟩
    have := (legalExpectedBits_iff n).not.mp (by simp [c])
    omega
  · rename_i c
    rw [Bool.not_eq_false, legalExpectedBits_iff] at c
    split at h
    · rename_i b
      cases h
      exact .inr (.inl ⟨c.1, c.2, b, rfl⟩)
    · rename_i b
      cases h
      exact .inr (.inr ⟨c.1, c.2, by simpa using b, rfl⟩)

/-- `SWITCH_CHANNEL` ends in one of two ways (R137). -/
theorem execSwitchChannel_cases {c : Nat} {s t : State} (h : execSwitchChannel c s = .next t) :
    ((c = 1 ∨ c = 2) ∧ t = (s.setChannel (BitVec.ofNat 2 c)).respond .ok 0#32) ∨
    (c ≠ 1 ∧ c ≠ 2 ∧ t = s.raise .errIllegal) := by
  unfold execSwitchChannel at h
  split at h
  · rename_i k
    cases h
    exact .inl ⟨by simpa [legalChannel] using k, rfl⟩
  · rename_i k
    cases h
    have : c ≠ 1 ∧ c ≠ 2 := by simpa [legalChannel] using k
    exact .inr ⟨this.1, this.2, rfl⟩

/-- Every operation answers a next state. -/
theorem exec_answers (i : Instr) (s : State) : ∃ t, exec i s = .next t := by
  cases i with
  | edge l => simp only [exec, execEdge]; split_ifs <;> exact ⟨_, rfl⟩
  | tick => simp only [exec, execTick]; split_ifs <;> exact ⟨_, rfl⟩
  | setExpectedBits n => simp only [exec, execSetExpectedBits]; split_ifs <;> exact ⟨_, rfl⟩
  | switchChannel c => simp only [exec, execSwitchChannel]; split_ifs <;> exact ⟨_, rfl⟩
  | checkData => exact ⟨_, execCheckData_eq s⟩
  | _ => exact ⟨_, rfl⟩

end Sys2Proof.Machine
end

