-- ==== Sys2Proof/Laws/Cycle.lean ====
section
/-! SUPPORT. One cycle: what is sampled, what is handled, what the Tick Source does. -/

namespace Sys2Proof.Machine

open Sys2Proof.Config

theorem rst_decodes (v : BitVec 1) : decode (.rst v) = if v = 1#1 then .op .reset else .noEvent := rfl

@[simp] theorem handle_op (i : Instr) (s : State) : handle (.op i) s = exec i s := rfl
@[simp] theorem handle_noEvent (s : State) : handle .noEvent s = .next s := rfl
@[simp] theorem handle_reserved (s : State) : handle .reserved s = .next (s.raise .errIllegal) := rfl

/-- Whatever the pins carry is answered by a next state. -/
theorem handle_answers (d : Decoded) (s : State) : ∃ t, handle d s = .next t := by
  cases d with
  | op i => exact exec_answers i s
  | noEvent => exact ⟨_, rfl⟩
  | reserved => exact ⟨_, rfl⟩

theorem handleAll_answers (ds : List Decoded) (s : State) : ∃ t, handleAll ds s = .next t := by
  induction ds generalizing s with
  | nil => exact ⟨_, rfl⟩
  | cons d ds ih =>
    obtain ⟨t, ht⟩ := handle_answers d s
    obtain ⟨u, hu⟩ := ih t
    exact ⟨u, by simp [handleAll, ht, hu]⟩

theorem handleAll_cons_next {d : Decoded} {ds : List Decoded} {s t : State} (h : handle d s = .next t) :
    handleAll (d :: ds) s = handleAll ds t := by
  simp [handleAll, h]

/-- Three events in a row, each on the state the one before left. -/
theorem handleAll_three {d e f : Decoded} {s a b c : State} (ha : handle d s = .next a) (hb : handle e a = .next b)
    (hc : handle f b = .next c) : handleAll [d, e, f] s = .next c := by
  simp [handleAll, ha, hb, hc]

/-- A property that every event keeps is kept by a cycle's events. -/
theorem handleAll_keeps {P : State → Prop} (hP : ∀ d s t, P s → handle d s = .next t → P t) {ds : List Decoded}
    {s t : State} (hs : P s) (h : handleAll ds s = .next t) : P t := by
  induction ds generalizing s with
  | nil => cases h; exact hs
  | cons d ds ih =>
    obtain ⟨u, hu⟩ := handle_answers d s
    rw [handleAll_cons_next hu] at h
    exact ih (hP d s u hs hu) h

theorem samplePins_of_pins {s : State} {p : InPins} {rest : List CycleIn} (h : s.inputs = .pins p :: rest) :
    s.samplePins = p := by
  simp [State.samplePins, State.nextInput, h]

/-- The pins the reference platform makes (R263 to R265). -/
theorem samplePins_of_line {s : State} {rst : Bool} {l : Level} {c : Option Command} (h : s.nextInput = .line rst l c) :
    s.samplePins =
      { now := s.now + 1#32
        rst := BitVec.ofBool rst
        edge := if rst then 0#2 else edgePins s.irPrev l
        tick := BitVec.ofBool s.tickSource.ticks
        cmdValid := c.isSome
        cmd := c.getD 0#16 } := by
  simp [State.samplePins, h]

theorem countedTickSource_of_line {s : State} {rst : Bool} {l : Level} {c : Option Command}
    (h : s.nextInput = .line rst l c) : s.countedTickSource = s.tickSource.count := by
  simp [State.countedTickSource, h]

theorem countedTickSource_of_pins {s : State} {p : InPins} {rest : List CycleIn} (h : s.inputs = .pins p :: rest) :
    s.countedTickSource = s.tickSource := by
  simp [State.countedTickSource, State.nextInput, h]

/-- The events of a cycle without reset, the `EDGE` first (R238). -/
theorem events_edge_first {p : InPins} (h : p.rst ≠ 1#1) :
    p.events true = [decode (.edge p.edge), decode (.tick p.tick), p.command] := by
  simp [InPins.events, rst_decodes, h]

/-- The events of a cycle without reset, the `TICK` first (D15). -/
theorem events_tick_first {p : InPins} (h : p.rst ≠ 1#1) :
    p.events false = [decode (.tick p.tick), decode (.edge p.edge), p.command] := by
  simp [InPins.events, rst_decodes, h]

/-- `RESET` discards the other events of its cycle (R238). -/
theorem events_reset {p : InPins} (h : p.rst = 1#1) (b : Bool) : p.events b = [.op .reset] := by
  simp [InPins.events, rst_decodes, h]

/-- With no event on the pins there is nothing to handle, in either order of `EDGE` and `TICK`. -/
theorem handleAll_of_noEvent {p : InPins} (h : p.CarryNoEvent) (b : Bool) (s : State) : handleAll (p.events b) s = .next s := by
  obtain ⟨hr, he, ht, hc⟩ := h
  have hn : p.rst ≠ 1#1 := by simp [hr]
  have htick : decode (.tick p.tick) = .noEvent := by simp [decode, ht]
  cases b
  · rw [events_tick_first hn, he, htick, hc]
    rfl
  · rw [events_edge_first hn, he, htick, hc]
    rfl

theorem step_of_handleAll {s t : State} (h : handleAll (s.samplePins.events s.params.edgeBeforeTick) s.beginCycle = .next t) :
    step s = .next (t.endCycle s.samplePins.rst) := by
  simp [step, cycle, h]

/-- Operations in a row are run part by part. -/
theorem runTimed_append {xs ys : List (Word × Instr)} {s t : State} (h : runTimed xs s = .next t) :
    runTimed (xs ++ ys) s = runTimed ys t := by
  induction xs generalizing s with
  | nil => cases h; rfl
  | cons x xs ih =>
    obtain ⟨u, hu⟩ := exec_answers x.2 { s with now := x.1 }
    simp only [runTimed, hu, List.cons_append] at h ⊢
    exact ih h

theorem apply_enabled (ts : TickSource) (a : TsActions) :
    (ts.apply a).enabled = if a.disable then false else if a.enable then true else ts.enabled := by
  unfold TickSource.apply
  cases a.resetCounter <;> cases a.setInterval <;> cases a.enable <;> cases a.disable <;> rfl

theorem count_enabled (ts : TickSource) : ts.count.enabled = ts.enabled := by
  unfold TickSource.count
  split <;> rfl

end Sys2Proof.Machine
end

