-- ==== Sys2Proof/Laws/Decode.lean ====
section
/-! SUPPORT. The fields of a command word and what each selects (R100, R101, R103). -/

namespace Sys2Proof

theorem cmdOp_toNat (w : Command) : (cmdOp w).toNat = w.toNat / 4096 := by
  have := w.isLt
  simp only [cmdOp, BitVec.extractLsb'_toNat, Nat.shiftRight_eq_div_pow]
  omega

theorem cmdZero_toNat (w : Command) : (cmdZero w).toNat = w.toNat / 64 % 64 := by
  simp [cmdZero, BitVec.extractLsb'_toNat, Nat.shiftRight_eq_div_pow]

theorem cmdArg_toNat (w : Command) : (cmdArg w).toNat = w.toNat % 64 := by
  simp [cmdArg, BitVec.extractLsb'_toNat]

/-- A command word is its three fields. -/
theorem command_fields (w : Command) :
    w.toNat = 4096 * (cmdOp w).toNat + 64 * (cmdZero w).toNat + (cmdArg w).toNat := by
  rw [cmdOp_toNat, cmdZero_toNat, cmdArg_toNat]
  omega

/-- `cmdArg` of a `CMD6` word is its operand. -/
theorem cmdArg_toNat_lt (w : Command) : (cmdArg w).toNat < 64 := (cmdArg w).isLt

theorem decodeCmd0_op {w : Command} {i j : Instr} (h : decodeCmd0 w i = .op j) : j = i ∧ cmdArg w = 0#6 := by
  unfold decodeCmd0 at h
  split at h
  · rename_i c
    cases h
    exact ⟨rfl, c⟩
  · cases h

/-- Which words select a command, and which (R101). -/
theorem decodeCmd_op {w : Command} {i : Instr} (h : decodeCmd w = .op i) :
    cmdZero w = 0#6 ∧
    ((cmdOp w = 0#4 ∧ cmdArg w = 0#6 ∧ i = .checkData) ∨
     (cmdOp w = 1#4 ∧ cmdArg w = 0#6 ∧ i = .lastPacketStartTime) ∨
     (cmdOp w = 2#4 ∧ i = .switchChannel (cmdArg w).toNat) ∨
     (cmdOp w = 3#4 ∧ i = .setExpectedBits (cmdArg w).toNat) ∨
     (cmdOp w = 4#4 ∧ cmdArg w = 0#6 ∧ i = .suppressPostRxSilence)) := by
  unfold decodeCmd at h
  split_ifs at h with hz h0 h1 h2 h3 h4
  all_goals first | (obtain ⟨rfl, ha⟩ := decodeCmd0_op h) | (cases h)
  all_goals simp_all

end Sys2Proof
end

