-- ==== Sys2Proof/Laws/PerInstr.lean ====
section
/-! SUPPORT. Per operation: its encoding lies in its row of spec/opcode_table.json (match and mask). -/

namespace Sys2Proof.Laws

/-- The bits of a pin group, numbered as the table numbers them. -/
def pinBits : PinWord → Nat
  | .rst v => v.toNat
  | .edge v => v.toNat
  | .tick v => v.toNat
  | .cmd w => w.toNat

/-- The row's mask. -/
def rowMask : Instr → Nat
  | .reset => 0x1
  | .edge _ => 0x2
  | .tick => 0x1
  | .checkData => 0xFFFF
  | .lastPacketStartTime => 0xFFFF
  | .switchChannel _ => 0xFFC0
  | .setExpectedBits _ => 0xFFC0
  | .suppressPostRxSilence => 0xFFFF

/-- The row's match. -/
def rowMatch : Instr → Nat
  | .reset => 0x1
  | .edge _ => 0x2
  | .tick => 0x1
  | .checkData => 0x0000
  | .lastPacketStartTime => 0x1000
  | .switchChannel _ => 0x2000
  | .setExpectedBits _ => 0x3000
  | .suppressPostRxSilence => 0x4000

/-- The encoding of a well-formed operation has the fixed bits of its row. -/
def TableRow.Statement (i : Instr) : Prop :=
  i.wellFormed = true → pinBits (encode i) &&& rowMask i = rowMatch i

/-- A `CMD6` operand leaves the bits above it alone. -/
theorem cmd6_row (base : Nat) (hb : base = 0x2000 ∨ base = 0x3000) :
    ∀ n : Fin 64, (BitVec.ofNat 16 base + BitVec.ofNat 16 n.val).toNat &&& 0xFFC0 = base := by
  rcases hb with rfl | rfl <;> decide

theorem TableRow.reset : TableRow.Statement .reset := fun _ => rfl
theorem TableRow.edge (level : Level) : TableRow.Statement (.edge level) := by
  intro _; cases level <;> rfl
theorem TableRow.tick : TableRow.Statement .tick := fun _ => rfl
theorem TableRow.checkData : TableRow.Statement .checkData := fun _ => rfl
theorem TableRow.lastPacketStartTime : TableRow.Statement .lastPacketStartTime := fun _ => rfl
theorem TableRow.switchChannel (c : Nat) : TableRow.Statement (.switchChannel c) :=
  fun h => cmd6_row 0x2000 (.inl rfl) ⟨c, by simpa [Instr.wellFormed, fitsArg] using h⟩
theorem TableRow.setExpectedBits (n : Nat) : TableRow.Statement (.setExpectedBits n) :=
  fun h => cmd6_row 0x3000 (.inr rfl) ⟨n, by simpa [Instr.wellFormed, fitsArg] using h⟩
theorem TableRow.suppressPostRxSilence : TableRow.Statement .suppressPostRxSilence := fun _ => rfl

end Sys2Proof.Laws
end

