-- ==== Sys2Proof/Tests/Slice0.lean ====
section
/-! SUPPORT. Tests of one decode or one step each, expected values from the encodings of R97 to R103 and the vectors of
spec/95_test_vectors.md (named in the comments), and a witness for the hypotheses of every statement. -/

namespace Sys2Proof.Tests

open Sys2Proof.Machine Sys2Proof.Config

/-! Well-formedness: the one check, with a term it refuses. -/

theorem test_wellFormed_refuses_channel_operand_64 : (Instr.switchChannel 64).wellFormed = false := by decide
theorem test_wellFormed_refuses_bits_operand_64 : (Instr.setExpectedBits 64).wellFormed = false := by decide
theorem test_wellFormed_takes_operand_63 : (Instr.setExpectedBits 63).wellFormed = true := by decide

/-! Decoding: every constructor's word, written out bit by bit. -/

theorem test_decode_reset : decode (.rst 0b1#1) = .op .reset := by decide
theorem test_decode_edge_falling : decode (.edge 0b10#2) = .op (.edge .low) := by decide
theorem test_decode_edge_rising : decode (.edge 0b11#2) = .op (.edge .high) := by decide
theorem test_decode_no_edge : decode (.edge 0b01#2) = .noEvent := by decide
theorem test_decode_tick : decode (.tick 0b1#1) = .op .tick := by decide
theorem test_decode_checkData : decode (.cmd 0b0000000000000000#16) = .op .checkData := by decide
theorem test_decode_lastPacketStartTime : decode (.cmd 0b0001000000000000#16) = .op .lastPacketStartTime := by decide
/-- CW7. -/
theorem test_decode_switchChannel : decode (.cmd 0b0010000000111111#16) = .op (.switchChannel 63) := by decide
/-- CW9. -/
theorem test_decode_setExpectedBits : decode (.cmd 0b0011000000001010#16) = .op (.setExpectedBits 10) := by decide
theorem test_decode_suppress : decode (.cmd 0b0100000000000000#16) = .op .suppressPostRxSilence := by decide
/-- CW16, CW19, CW21, CW22. -/
theorem test_decode_reserved :
    decode (.cmd 0x0001#16) = .reserved ∧ decode (.cmd 0x0040#16) = .reserved ∧
    decode (.cmd 0x3811#16) = .reserved ∧ decode (.cmd 0x5000#16) = .reserved := by decide
theorem test_tableWord :
    decodeTableWord 8 1 = some .reset ∧ decodeTableWord 8 2 = some (.edge .low) ∧
    decodeTableWord 16 0x3011 = some (.setExpectedBits 17) ∧ decodeTableWord 16 0x5000 = none := by decide

/-! States. -/

/-- Armed with 17 bits on channel 1, the line high for the last 550 µs (P1 at 30800). -/
def armed : State :=
  { State.reset with
    bitCountdown := 35#7, referenceTime := 30250#32, now := 30800#32, tickSource := ⟨true, 800#16, 799#16⟩ }

/-- In a capture, 10 ticks to come (T21). -/
def sampling : State :=
  { State.reset with
    bitCountdown := 10#7, referenceTime := 5000#32, now := 5201#32, tickSource := ⟨true, 400#16, 200#16⟩ }

/-- Before the last tick (T31). -/
def closing : State :=
  { State.reset with
    bitCountdown := 1#7, referenceTime := 44000#32, now := 44400#32, lineLevel := .low, rawWords := #v[0x9966A55B#32, 2#32], tickSource := ⟨true, 400#16, 399#16⟩ }

/-- A published sample of 17 bits (K2). -/
def published : State :=
  { State.reset with packetReadyFlag := true, rawWords := #v[0x9966A55A#32, 2#32], packetStartTime := 30799#32 }

/-- Idle, `now` given. -/
def idleAt (t : Word) : State := { State.reset with now := t }

/-- The next state, if there is one. -/
def nextOf (o : Host.Outcome State Fault Refusal) : Option State :=
  match o with
  | .next s => some s
  | .fault _ => none
  | .refused _ => none

/-! One operation. -/

/-- E2. -/
theorem test_edge_arms : (nextOf (exec (.edge .low) (idleAt 24800#32))).map (fun t => (t.bitCountdown, t.tsActions)) =
    some (35#7, ⟨true, some 800#16, true, true⟩) := by decide
/-- E6: across a wrap of the Clock. -/
theorem test_edge_adds_high_time :
    (nextOf (exec (.edge .low) { sampling with referenceTime := 0xFFFFFF00#32, highTimeAccumulator := 7#32, now := 256#32 })).map
      (fun t => (t.highTimeAccumulator, t.referenceTime, t.lineLevel)) = some (519#32, 256#32, .low) := by decide
/-- T16: abort with a rewind across 0. -/
theorem test_tick_aborts :
    (nextOf (exec .tick { armed with referenceTime := 200#32, now := 1000#32, lineLevel := .low })).map
      (fun t => (t.bitCountdown, t.referenceTime)) = some (0#7, 0xFFFFA309#32) := by decide
/-- T28: a 0 clears its position. -/
theorem test_tick_clears_a_bit :
    (nextOf (exec .tick { sampling with bitCountdown := 6#7, lineLevel := .low, rawWords := #v[0xFFFFFFFF#32, 0#32] })).map
      (fun t => t.rawWords) = some #v[0xFFFFFFDF#32, 0#32] := by decide
/-- K2. -/
theorem test_checkData_ok : (nextOf (exec .checkData published)).map (fun t => (t.response, t.packetReadyFlag)) =
    some (some ⟨.ok, 107971#32⟩, false) := by decide
/-- K18: the top pair is 11. -/
theorem test_checkData_invalid :
    (nextOf (exec .checkData { published with rawWords := #v[0x9966A55A#32, 3#32] })).map (fun t => (t.response, t.packetReadyFlag)) =
      some (some ⟨.invalid, 0#32⟩, false) := by decide
/-- A2. -/
theorem test_lastPacketStartTime : (nextOf (exec .lastPacketStartTime published)).map
    (fun t => (t.response, t.packetReadyFlag)) = some (some ⟨.ok, 30799#32⟩, true) := by decide
/-- CW4. -/
theorem test_switchChannel_legal : (nextOf (exec (.switchChannel 2) State.reset)).map (fun t => (t.channel, t.response)) =
    some (2#2, some ⟨.ok, 0#32⟩) := by decide
/-- CW6. -/
theorem test_switchChannel_illegal : (nextOf (exec (.switchChannel 3) State.reset)).map (fun t => (t.channel, t.response)) =
    some (1#2, some ⟨.errIllegal, 0#32⟩) := by decide
/-- CW9. -/
theorem test_setExpectedBits_ten : (nextOf (exec (.setExpectedBits 10) State.reset)).map
    (fun t => (t.expectedBits, t.packetLengthMicros, t.postRxSilenceMicros)) = some (10#6, 8001#32, 30399#32) := by decide
/-- CW26: the operand is checked before the phase. -/
theorem test_setExpectedBits_order : (nextOf (exec (.setExpectedBits 0) armed)).map (fun t => t.response) =
    some (some ⟨.errIllegal, 0#32⟩) := by decide
/-- CW13. -/
theorem test_suppress : (nextOf (exec .suppressPostRxSilence State.reset)).map (fun t => t.postRxSilenceMicros) =
    some 0#32 := by decide
/-- Z1. -/
theorem test_reset : (nextOf (exec .reset { closing with channel := 2#2, packetReadyFlag := true })).map
    (fun t => (t.bitCountdown, t.packetReadyFlag, t.channel, t.rawWords)) = some (0#7, false, 1#2, #v[0#32, 0#32]) := by decide

/-! One cycle. -/

/-- CW8 through a word of the opcode table. -/
theorem test_step_runs_a_table_word : (nextOf (step (State.reset.withFetchWord 16 0x3001))).map
    (fun t => (t.expectedBits, t.response, t.inputs)) = some (1#6, some ⟨.ok, 0#32⟩, []) := by decide
/-- CW24. -/
theorem test_step_reserved_word : (nextOf (step (State.reset.withFetchWord 16 0xFFFF))).map (fun t => t.responsePins) =
    some (1#1, 3#3, 0#32) := by decide
/-- P1 at 31200: an `EDGE` and a `TICK` of one cycle, the edge first. -/
theorem test_step_edge_before_tick :
    (nextOf (step { sampling with inputs := [.pins ⟨5400#32, 0#1, 0b10#2, 1#1, false, 0#16⟩] })).map
      (fun t => (t.bitCountdown, t.rawWords, t.lineLevel)) = some (9#7, #v[0x200#32, 0#32], .low) := by decide
/-- Z2. -/
theorem test_step_reset_first :
    (nextOf (step { closing with inputs := [.pins ⟨44400#32, 1#1, 0b11#2, 1#1, true, 0#16⟩] })).map
      (fun t => (t.bitCountdown, t.packetReadyFlag, t.responsePins)) = some (0#7, false, 0#1, 0#3, 0#32) := by decide
/-- R264: the Tick Source reaches its interval and the tick is handled in that cycle. -/
theorem test_step_platform_tick : (nextOf (step { armed with now := 30799#32 })).map
    (fun t => (t.now, t.bitCountdown, t.tickSource)) = some (30800#32, 34#7, ⟨true, 400#16, 0#16⟩) := by decide

/-! Witnesses: for each statement, a state and operands that meet its hypotheses. -/

theorem armed_regInv : armed.RegInv := by constructor <;> decide
theorem sampling_regInv : sampling.RegInv := by constructor <;> decide
theorem published_regInv : published.RegInv := by constructor <;> decide
theorem sampling_inv : sampling.Inv := ⟨sampling_regInv, by decide⟩
theorem armed_inv : armed.Inv := ⟨armed_regInv, by decide⟩

theorem witness_DecodeOfEncodeIsTheOperation : (Instr.switchChannel 63).wellFormed = true := by decide
theorem witness_OnlyTheEncodersWordSelects : decode (.cmd 0x303F#16) = .op (.setExpectedBits 63) := by decide
theorem witness_ReservedWordsAnswerErrIllegal :
    decode (.cmd 0x4001#16) = .reserved ∧ decode (.cmd 0x2042#16) = .reserved ∧ decode (.cmd 0xF000#16) = .reserved ∧
      (InPins.quiet 0#32).cmdValid = false := by decide
theorem witness_StepRunsTheDecodedOperation :
    decode (.edge 0b10#2) = .op (.edge .low) ∧
      ({ sampling with inputs := [.pins (InPins.only 5300#32 (.edge 0b10#2))] } : State).samplePins =
        InPins.only 5300#32 (.edge 0b10#2) := ⟨by decide, rfl⟩
/-- The same on the reference platform, whose Tick Source ticks with the line low. -/
theorem witness_StepRunsTheDecodedOperation_platform :
    ({ armed with irPrev := .low, now := 30799#32 } : State).samplePins = InPins.only 30800#32 (.tick 0b1#1) := by decide
theorem witness_EventsOfOneCycleAreOrdered :
    armed.params.edgeBeforeTick = true ∧ armed.samplePins.rst = 0#1 ∧
      ({ sampling with inputs := [.line true .low none] } : State).samplePins.rst = 1#1 ∧
      ({ sampling with inputs := [.pins ⟨0#32, 0#1, 0b10#2, 1#1, true, 0x2002#16⟩] } : State).samplePins.rst = 0#1 := by decide
theorem witness_TickFirstUnderTheOtherSetting :
    let s : State := { sampling with params := { Params.spec with edgeBeforeTick := false } }
    s.params.edgeBeforeTick = false ∧ s.samplePins.rst = 0#1 := by decide
/-- A level without `edge_valid` and a word without `cmd_valid`; a listed cycle of the platform; no listed cycle. -/
theorem witness_CycleWithoutEventChangesNoRegister :
    ({ sampling with inputs := [.pins ⟨5300#32, 0#1, 0b01#2, 0#1, false, 0x2002#16⟩] } : State).samplePins.CarryNoEvent ∧
      ({ sampling with inputs := [.line false .high none] } : State).nextInput = .line false sampling.irPrev none ∧
      sampling.tickSource.ticks = false ∧ sampling.inputs = [] := by
  unfold InPins.CarryNoEvent
  decide
theorem witness_FallingEdgeInCaptureAddsHighTime : sampling.bitCountdown ≠ 0#7 := by decide
theorem witness_FallingEdgeAfterSilenceArms :
    let s : State := { idleAt 24800#32 with tsActions := TsActions.none }
    s.bitCountdown = 0#7 ∧ s.postRxSilenceMicros.toNat < (s.now - s.referenceTime).toNat ∧ s.tsActions.disable = false ∧
      (idleAt 24799#32).now - (idleAt 24799#32).referenceTime = (idleAt 24799#32).postRxSilenceMicros := by decide
theorem witness_OtherEdgesOnlyStamp :
    (idleAt 24799#32).bitCountdown = 0#7 ∧
      ((idleAt 24799#32).now - (idleAt 24799#32).referenceTime).toNat ≤ (idleAt 24799#32).postRxSilenceMicros.toNat := by decide
theorem witness_NoEdgeArmsDuringACapture : armed.bitCountdown ≠ 0#7 := by decide
theorem witness_EdgeFrame : ∃ t, exec (.edge .low) armed = .next t ∧ armed.bitCountdown ≠ 0#7 := ⟨_, rfl, by decide⟩
theorem witness_SuppressedSilenceArmsOnAnyElapsedTime :
    ({ State.reset with postRxSilenceMicros := 0#32, now := 1#32 } : State).bitCountdown = 0#7 ∧
      ({ State.reset with postRxSilenceMicros := 0#32, now := 1#32 } : State).postRxSilenceMicros = 0#32 := by decide
/-- An armed state whose start slot was low throughout (T6). -/
def failing : State := { armed with referenceTime := 30000#32, lineLevel := .low }
theorem failing_outside : ¬ StartWindow failing.params.windowClosed failing.channel failing.slotHigh.toNat := by
  unfold StartWindow; decide
theorem witness_AbortCreditLastsOneEdge :
    failing.bitCountdown = BitVec.ofNat 7 (2 * failing.expectedBits.toNat + 1) ∧
      ¬ StartWindow failing.params.windowClosed failing.channel failing.slotHigh.toNat ∧
      0 < (30801#32 - failing.now : Word).toNat ∧
      (30801#32 - failing.now : Word).toNat + failing.postRxSilenceMicros.toNat < 2 ^ 32 :=
  ⟨by decide, failing_outside, by decide, by decide⟩
theorem witness_TickWhileIdleChangesNothing : published.bitCountdown = 0#7 := by decide
/-- T2 and T4: both bounds, which are inside by the default of `WINDOW_CLOSED`. -/
theorem witness_FirstTickInWindowGoesOn :
    let lo : State := { armed with referenceTime := 30325#32 }
    let hi : State := { armed with referenceTime := 30175#32 }
    lo.bitCountdown = BitVec.ofNat 7 (2 * lo.expectedBits.toNat + 1) ∧
      StartWindow lo.params.windowClosed lo.channel lo.slotHigh.toNat ∧
      hi.bitCountdown = BitVec.ofNat 7 (2 * hi.expectedBits.toNat + 1) ∧
      StartWindow hi.params.windowClosed hi.channel hi.slotHigh.toNat := by unfold StartWindow; decide
/-- T1 and T5: one below and one above. -/
theorem witness_FirstTickOutsideWindowAborts :
    let lo : State := { armed with referenceTime := 30326#32 }
    let hi : State := { armed with referenceTime := 30174#32 }
    lo.bitCountdown = BitVec.ofNat 7 (2 * lo.expectedBits.toNat + 1) ∧
      ¬ StartWindow lo.params.windowClosed lo.channel lo.slotHigh.toNat ∧
      hi.bitCountdown = BitVec.ofNat 7 (2 * hi.expectedBits.toNat + 1) ∧
      ¬ StartWindow hi.params.windowClosed hi.channel hi.slotHigh.toNat := by unfold StartWindow; decide
theorem witness_LaterTickClassifiesItsSlot :
    0 < sampling.bitCountdown.toNat ∧ sampling.bitCountdown.toNat ≤ 64 ∧
      sampling.bitCountdown.toNat ≠ 2 * sampling.expectedBits.toNat + 1 ∧ sampling.bitCountdown.toNat ≠ 1 := by decide
/-- The highest raw position, 63 (T27). -/
theorem witness_LaterTickClassifiesItsSlot_top :
    ({ sampling with expectedBits := 32#6, bitCountdown := 64#7 } : State).bitCountdown.toNat ≤ 64 ∧
      ({ sampling with expectedBits := 32#6, bitCountdown := 64#7 } : State).bitCountdown.toNat ≠ 2 * 32 + 1 := by decide
theorem witness_LastTickPublishes : closing.bitCountdown = 1#7 ∧ closing.expectedBits ≠ 0#6 := by decide
theorem witness_ReadyFlagChangesByItsRule :
    (∃ t, exec .tick closing = .next t ∧ t.packetReadyFlag = true) ∧ Instr.tick ≠ .reset ∧ Instr.tick ≠ .checkData ∧
      ¬ (sampling.bitCountdown = 1#7) := ⟨⟨_, rfl, by decide⟩, by decide⟩
theorem witness_TickAndEnvironmentFrame : ∃ t, exec .tick sampling = .next t := ⟨_, rfl⟩
theorem witness_CountdownChangesByTheTable : ∃ t, exec .tick armed = .next t ∧ t.bitCountdown = 34#7 := ⟨_, rfl, by decide⟩
theorem witness_EdgeAndTickCommuteUnlessAborting :
    sampling.bitCountdown ≠ 0#7 ∧ sampling.lineLevel = Level.low.flip ∧
      sampling.bitCountdown ≠ BitVec.ofNat 7 (2 * sampling.expectedBits.toNat + 1) := by decide
theorem witness_EdgeAndTickCommuteUnlessAborting_first_tick :
    armed.bitCountdown ≠ 0#7 ∧ armed.lineLevel = Level.low.flip ∧
      StartWindow armed.params.windowClosed armed.channel armed.slotHigh.toNat := by unfold StartWindow; decide
theorem witness_SlotHighTimeIsTheLinesHighTime : sampling.bitCountdown ≠ 0#7 := by decide
/-- Two ticks to come, with an edge and a command between. -/
theorem witness_CaptureRunsToPublication :
    let s : State := { sampling with bitCountdown := 2#7 }
    let ops : List (Word × Instr) := [(5300#32, .edge .low), (5400#32, .tick), (5401#32, .setExpectedBits 4)]
    0 < s.bitCountdown.toNat ∧ s.bitCountdown.toNat ≤ 2 * s.expectedBits.toNat ∧ noReset ops ∧
      tickCount ops + 1 = s.bitCountdown.toNat := by
  refine ⟨by decide, by decide, ?_, by decide⟩
  unfold noReset
  decide
theorem witness_ExactTicksPublishArmingPlus799 :
    let s : State := { State.reset with expectedBits := 1#6, packetLengthMicros := 801#32, postRxSilenceMicros := 37599#32 }
    let before : List (Word × Instr) := [(40250#32, .edge .high)]
    let after : List (Word × Instr) := [(41200#32, .tick)]
    s.RegInv ∧ s.bitCountdown = 0#7 ∧ s.postRxSilenceMicros.toNat < (40000#32 - s.referenceTime : Word).toNat ∧
      noReset before ∧ noTick before ∧ noReset after ∧ tickCount after + 1 = 2 * s.expectedBits.toNat ∧
      ∃ b, runTimed ((40000#32, .edge .low) :: before) s = .next b ∧
        StartWindow b.params.windowClosed b.channel ({ b with now := 40000#32 + 800#32 } : State).slotHigh.toNat := by
  refine ⟨by constructor <;> decide, by decide, by decide, ?_, ?_, ?_, by decide, _, rfl, ?_⟩
  · unfold noReset; decide
  · unfold noTick; decide
  · unfold noReset; decide
  · unfold StartWindow; decide
theorem witness_CheckDataWithoutSample : State.reset.packetReadyFlag = false := by decide
theorem witness_ValidSampleDecodesToItsInteger :
    published.packetReadyFlag = true ∧ published.expectedBits.toNat ≤ 32 ∧ 107971 < 2 ^ published.expectedBits.toNat ∧
      (∀ j, j < published.expectedBits.toNat →
        published.raw (2 * j + 1) = Nat.testBit 107971 j ∧ published.raw (2 * j) = !Nat.testBit 107971 j) := by decide
/-- K19: the bottom pair is 11. -/
theorem witness_BadPairIsInvalid :
    let s : State := { published with rawWords := #v[0x9966A55B#32, 2#32] }
    s.packetReadyFlag = true ∧ 0 < s.expectedBits.toNat ∧ s.raw (2 * 0 + 1) = s.raw (2 * 0) := by decide
/-- A query in a capture, then a tick that does not publish. -/
theorem witness_SecondCheckDataFindsNoData :
    ∃ t, exec .checkData { sampling with packetReadyFlag := true } = .next t ∧
      noPublication [(5300#32, .edge .low), (5400#32, .tick)] t := by
  refine ⟨_, rfl, ?_⟩
  simp only [noPublication, State.publishesAtTick]
  refine ⟨by decide, fun a ha => ?_⟩
  cases ha
  exact ⟨by decide, fun _ _ => trivial⟩
/-- A query while armed, then a tick that aborts. -/
theorem witness_SecondCheckDataFindsNoData_abort :
    ∃ t, exec .checkData { failing with packetReadyFlag := true } = .next t ∧ noPublication [(30800#32, .tick)] t := by
  refine ⟨_, rfl, ?_⟩
  simp only [noPublication, State.publishesAtTick]
  exact ⟨by decide, fun _ _ => trivial⟩
/-- K16: positions 8 to 63 set, 4 bits expected. -/
theorem witness_UnusedPositionsDoNotMatter :
    let s : State := { published with expectedBits := 4#6, rawWords := #v[0x99#32, 0#32] }
    ∀ p, p < 2 * s.expectedBits.toNat → rawBit #v[0xFFFFFF99#32, 0xFFFFFFFF#32] p = s.raw p := by decide
theorem witness_SetExpectedBitsByItsPseudocode :
    63 < 64 ∧ (0 = 0 ∨ 32 < 0) ∧ 32 < 33 ∧ armed.bitCountdown ≠ 0#7 ∧ 1 ≤ 1 ∧ 1 ≤ 32 ∧ 32 ≤ 32 ∧ State.reset.bitCountdown = 0#7 ∧
      State.reset.params.suppressSticky = false := by decide
theorem witness_SuppressionThenSetExpectedBits : 1 ≤ 1 ∧ 1 ≤ 32 ∧ State.reset.bitCountdown = 0#7 := by decide
theorem witness_SwitchChannelLegalAndIllegal : (2 = 1 ∨ 2 = 2) ∧ 3 ≠ 1 ∧ 3 ≠ 2 ∧ 0 ≠ 1 ∧ 0 ≠ 2 := by decide
theorem witness_ConfigurationCommandsTouchNoCaptureState :
    (∃ n, Instr.setExpectedBits 0 = .setExpectedBits n) ∧ (∃ c, Instr.switchChannel 1 = .switchChannel c) :=
  ⟨⟨_, rfl⟩, ⟨_, rfl⟩⟩
theorem witness_HostNeverSeesInProgressFields : isHostCommand .checkData = true := by decide
theorem witness_ResponsesAreTheHostCommands : isHostCommand (.switchChannel 0) = true ∧ isHostCommand .tick = false := by decide
theorem witness_ResetPutsEveryRegister : closing.params = Params.spec := by decide
theorem witness_ResetCycleEndsInTheResetState :
    let s : State := { closing with inputs := [.line true .low (some 0x2002#16)] }
    let t : State := { closing with inputs := [.pins ⟨7#32, 1#1, 0b11#2, 1#1, true, 0#16⟩] }
    s.params = Params.spec ∧ s.samplePins.rst = 1#1 ∧ t.params = Params.spec ∧ t.samplePins.rst = 1#1 := by decide
theorem witness_EveryOperationKeepsTheRegisterInvariant : armed.RegInv := armed_regInv
theorem witness_EveryCycleKeepsTheInvariant : sampling.Inv ∧ ∃ t, step sampling = .next t := ⟨sampling_inv, _, rfl⟩
theorem witness_HighRawPositionsAreNotWritten :
    sampling.RegInv ∧ Instr.tick ≠ .reset ∧ (∃ t, exec .tick sampling = .next t) ∧ 2 * sampling.expectedBits.toNat ≤ 34 :=
  ⟨sampling_regInv, by decide, ⟨_, rfl⟩, by decide⟩
theorem witness_TickSourceActionsAreTheTable :
    let s : State := { armed with tsActions := TsActions.none }
    s.RegInv ∧ s.tsActions = TsActions.none ∧ ∃ t, exec .tick s = .next t :=
  ⟨by constructor <;> decide, rfl, _, rfl⟩
theorem witness_TickSourceTicksAfterItsInterval : 799 < (800#16).toNat ∧ 799 + 1 = (800#16).toNat := by decide
theorem witness_PlatformTicksOnlyInACapture :
    armed.Inv ∧ armed.nextInput = .line false .high none ∧ armed.samplePins.tick = 1#1 := ⟨armed_inv, by decide, by decide⟩
theorem witness_EdgeSourceDeliversTransitions :
    ({ sampling with inputs := [.line false .low none] } : State).nextInput = .line false .low none ∧
      sampling.irPrev = .high := by decide
theorem witness_PlatformCycleCountsAndTakesActions :
    ({ sampling with inputs := [.pins (InPins.quiet 5300#32)] } : State).nextInput = .pins (InPins.quiet 5300#32) ∧
      armed.nextInput = .line false .high none ∧ armed.tickSource.ticks = true ∧
      ({ armed with inputs := [.line true .low (some 0x2002#16)] } : State).nextInput = .line true .low (some 0x2002#16) := by
  decide
theorem witness_FrameRoundTrip :
    published.RegInv ∧ published.bitCountdown = 0#7 ∧
      published.postRxSilenceMicros.toNat < (30000#32 - published.referenceTime : Word).toNat ∧
      StartWindow published.params.windowClosed published.channel 475 ∧ 0x1A5C3 < 2 ^ published.expectedBits.toNat :=
  ⟨published_regInv, by decide, by decide, by unfold StartWindow; decide, by decide⟩

end Sys2Proof.Tests
end

section
/-! PROOFS. `packetReadyFlag` and `packetStartTime`: which operation writes them, and which reads the flag (R24, R27). -/

namespace Sys2Proof.Machine

variable {s t : State}

/-! What an operation leaves of the published sample. -/

theorem execEdge_samePublished {l : Level} (h : execEdge l s = .next t) : s.SamePublished t := by
  obtain ⟨-, -, rfl⟩ | ⟨-, -, -, rfl⟩ | ⟨-, rfl⟩ := execEdge_cases h <;> exact ⟨rfl, rfl, rfl⟩

theorem execSetExpectedBits_samePublished {n : Nat} (h : execSetExpectedBits n s = .next t) : s.SamePublished t := by
  obtain ⟨-, rfl⟩ | ⟨-, -, -, rfl⟩ | ⟨-, -, -, rfl⟩ := execSetExpectedBits_cases h <;> exact ⟨rfl, rfl, rfl⟩

theorem execSwitchChannel_samePublished {c : Nat} (h : execSwitchChannel c s = .next t) : s.SamePublished t := by
  obtain ⟨-, rfl⟩ | ⟨-, -, rfl⟩ := execSwitchChannel_cases h <;> exact ⟨rfl, rfl, rfl⟩

/-- The tick at count 1 publishes unless it is the first tick of its capture as well, as it is with no bits expected. -/
theorem publishesAtTick_iff :
    s.publishesAtTick ↔ s.bitCountdown = 1#7 ∧ s.bitCountdown.toNat ≠ 2 * s.expectedBits.toNat + 1 := by
  refine and_congr_right fun h1 => ?_
  rw [h1, ne_eq, ← BitVec.toNat_inj]
  simp only [BitVec.toNat_ofNat]
  omega

/-- A `TICK` publishes, or leaves the flag and the start time alone (R180). -/
theorem execTick_publishes_or_keeps (h : execTick s = .next t) :
    (s.publishesAtTick ∧ t.packetReadyFlag = true) ∨
    (¬ s.publishesAtTick ∧ t.packetReadyFlag = s.packetReadyFlag ∧ t.packetStartTime = s.packetStartTime) := by
  rw [publishesAtTick_iff]
  obtain ⟨h0, rfl⟩ | ⟨-, hfirst, -, rfl⟩ | ⟨-, hfirst, -, rfl⟩ | ⟨-, -, hlast, rfl⟩ | ⟨hlast, hfirst, rfl⟩ :=
    execTick_cases h
  · exact .inr ⟨by simp [h0], rfl, rfl⟩
  · exact .inr ⟨fun hp => hp.2 hfirst, by simp, by simp⟩
  · exact .inr ⟨fun hp => hp.2 hfirst, by simp, by simp⟩
  · exact .inr ⟨fun hp => hlast (congrArg BitVec.toNat hp.1), by simp, by simp⟩
  · exact .inl ⟨⟨hlast, hfirst⟩, rfl⟩

/-- `packetStartTime` changes with a publication or `RESET` only (R24). -/
theorem exec_packetStartTime {i : Instr} (hr : i ≠ .reset) (hp : ¬ (i = .tick ∧ s.publishesAtTick))
    (h : exec i s = .next t) : t.packetStartTime = s.packetStartTime := by
  cases i with
  | reset => exact absurd rfl hr
  | edge l => exact (execEdge_samePublished h).2.2
  | tick =>
    obtain ⟨hpub, -⟩ | ⟨-, -, hstart⟩ := execTick_publishes_or_keeps h
    · exact absurd ⟨rfl, hpub⟩ hp
    · exact hstart
  | checkData => cases (execCheckData_eq s).symm.trans h; rfl
  | lastPacketStartTime => cases h; rfl
  | switchChannel c => exact (execSwitchChannel_samePublished h).2.2
  | setExpectedBits n => exact (execSetExpectedBits_samePublished h).2.2
  | suppressPostRxSilence => cases h; rfl

/-! Operations from two states that differ in the flag alone. -/

theorem observeTick_setReadyFlag (s : State) (b : Bool) :
    (s.setReadyFlag b).observeTick = s.observeTick.setReadyFlag b := by
  simp only [State.observeTick]
  by_cases hline : s.lineLevel = .high
  · rw [if_pos hline]; exact if_pos hline
  · rw [if_neg hline]; exact if_neg hline

theorem startTick_setReadyFlag (s : State) (b : Bool) : (s.setReadyFlag b).startTick = s.startTick.setReadyFlag b := by
  unfold State.startTick
  by_cases hwindow : inWindow s.params.windowClosed s.channel s.highTimeAccumulator = true
  · rw [if_pos hwindow]; exact if_pos hwindow
  · rw [if_neg hwindow]; exact if_neg hwindow

/-- The publishing tick forgets the flag it found; every other later tick hands it on. -/
theorem slotTick_setReadyFlag (s : State) (b : Bool) :
    (s.setReadyFlag b).slotTick.setReadyFlag s.slotTick.packetReadyFlag = s.slotTick := by
  have hclose : (s.setReadyFlag b).closeSlot = s.closeSlot.setReadyFlag b := rfl
  simp only [State.slotTick, hclose, setReadyFlag_bitCountdown]
  split <;> rfl

theorem execTick_setReadyFlag (b : Bool) (h : execTick s = .next t) :
    ∃ u, execTick (s.setReadyFlag b) = .next u ∧ u.setReadyFlag t.packetReadyFlag = t := by
  simp only [execTick, observeTick_setReadyFlag, setReadyFlag_bitCountdown, setReadyFlag_expectedBits] at h ⊢
  split_ifs at h ⊢ <;> cases h
  · exact ⟨_, rfl, rfl⟩
  · exact ⟨_, rfl, by rw [startTick_setReadyFlag]; rfl⟩
  · exact ⟨_, rfl, slotTick_setReadyFlag _ b⟩

theorem execEdge_setReadyFlag {l : Level} (b : Bool) (h : execEdge l s = .next t) :
    execEdge l (s.setReadyFlag b) = .next (t.setReadyFlag b) := by
  unfold execEdge at h ⊢
  split_ifs at h with hcapture harm <;> cases h
  · exact if_pos hcapture
  · exact (if_neg hcapture).trans (if_pos harm)
  · exact (if_neg hcapture).trans (if_neg harm)

theorem execSetExpectedBits_setReadyFlag {n : Nat} (b : Bool) (h : execSetExpectedBits n s = .next t) :
    execSetExpectedBits n (s.setReadyFlag b) = .next (t.setReadyFlag b) := by
  unfold execSetExpectedBits at h ⊢
  split_ifs at h with hillegal hbusy <;> cases h
  · exact if_pos hillegal
  · exact (if_neg hillegal).trans (if_pos hbusy)
  · exact (if_neg hillegal).trans (if_neg hbusy)

theorem execSwitchChannel_setReadyFlag {c : Nat} (b : Bool) (h : execSwitchChannel c s = .next t) :
    execSwitchChannel c (s.setReadyFlag b) = .next (t.setReadyFlag b) := by
  unfold execSwitchChannel at h ⊢
  split_ifs at h ⊢ <;> cases h <;> rfl

/-- Only `CHECK_DATA` reads the flag: with any other value found, the same next state but for the flag (R27). -/
theorem exec_setReadyFlag {i : Instr} (hc : i ≠ .checkData) (b : Bool) (h : exec i s = .next t) :
    ∃ u, exec i (s.setReadyFlag b) = .next u ∧ u.setReadyFlag t.packetReadyFlag = t := by
  cases i with
  | reset => exact ⟨t, h, rfl⟩
  | edge l => exact ⟨_, execEdge_setReadyFlag b h, rfl⟩
  | tick => exact execTick_setReadyFlag b h
  | checkData => exact absurd rfl hc
  | lastPacketStartTime => cases h; exact ⟨_, rfl, rfl⟩
  | switchChannel c => exact ⟨_, execSwitchChannel_setReadyFlag b h, rfl⟩
  | setExpectedBits n => exact ⟨_, execSetExpectedBits_setReadyFlag b h, rfl⟩
  | suppressPostRxSilence => cases h; exact ⟨_, rfl, rfl⟩

/-- Settles O25: what each operation leaves in the flag by the cases of its meaning, then the start time's frame, then the
run from the other value of the flag. -/
theorem readyFlagChangesByItsRule : Obligations.ReadyFlagChangesByItsRule := by
  intro i s t h
  refine ⟨?_, fun hr hp => exec_packetStartTime hr hp h, fun hc b => exec_setReadyFlag hc b h⟩
  cases i with
  | reset => cases h; rfl
  | edge l => exact (execEdge_samePublished h).2.1
  | tick =>
    obtain ⟨hpub, hflag⟩ | ⟨hpub, hflag, -⟩ := execTick_publishes_or_keeps h
    · exact hflag.trans (if_pos hpub).symm
    · exact hflag.trans (if_neg hpub).symm
  | checkData => cases (execCheckData_eq s).symm.trans h; rfl
  | lastPacketStartTime => cases h; rfl
  | switchChannel c => exact (execSwitchChannel_samePublished h).2.1
  | setExpectedBits n => exact (execSetExpectedBits_samePublished h).2.1
  | suppressPostRxSilence => cases h; rfl

end Sys2Proof.Machine
end

section
/-! PROOFS. The configuration commands: their words, the answer to each operand and phase, and what none of them touches
(R130 to R135). -/

namespace Sys2Proof

/-- The fields of a `CMD6` word, its op code in `cmd[15:12]` and its operand in `cmd[5:0]` (R100, R102). -/
theorem cmd6_fields {w : Command} {op n : Nat} (hop : op < 16) (hn : n < 64) (hw : w.toNat = 4096 * op + n) :
    cmdOp w = BitVec.ofNat 4 op ∧ cmdZero w = 0#6 ∧ (cmdArg w).toNat = n := by
  refine ⟨BitVec.eq_of_toNat_eq ?_, BitVec.eq_of_toNat_eq ?_, ?_⟩
  · rw [cmdOp_toNat, BitVec.toNat_ofNat]; omega
  · rw [cmdZero_toNat, BitVec.toNat_ofNat]; omega
  · rw [cmdArg_toNat]; omega

theorem decode_setExpectedBits {n : Nat} (hn : n < 64) :
    decode (.cmd (0x3000#16 + BitVec.ofNat 16 n)) = .op (.setExpectedBits n) := by
  have hw : (0x3000#16 + BitVec.ofNat 16 n).toNat = 4096 * 3 + n := by
    simp only [BitVec.toNat_add, BitVec.toNat_ofNat]; omega
  obtain ⟨hop, hzero, harg⟩ := cmd6_fields (by decide) hn hw
  simp [decode, decodeCmd, hop, hzero, harg]

end Sys2Proof

namespace Sys2Proof.Machine

variable {s : State} {n c : Nat}

/-! What each command answers: one equation per case. -/

theorem execSetExpectedBits_illegal (hn : n = 0 ∨ 32 < n) : execSetExpectedBits n s = .next (s.raise .errIllegal) := by
  refine if_pos ?_
  rw [← Bool.not_eq_true, legalExpectedBits_iff]
  omega

theorem execSetExpectedBits_busy (h1 : 1 ≤ n) (h32 : n ≤ 32) (hbusy : s.bitCountdown ≠ 0#7) :
    execSetExpectedBits n s = .next (s.raise .errBusy) := by
  have hlegal := (legalExpectedBits_iff n).mpr ⟨h1, h32⟩
  simp [execSetExpectedBits, hlegal, hbusy]

theorem execSetExpectedBits_idle (h1 : 1 ≤ n) (h32 : n ≤ 32) (hidle : s.bitCountdown = 0#7) :
    execSetExpectedBits n s = .next ((s.setBitCount n).respond .ok 0#32) := by
  have hlegal := (legalExpectedBits_iff n).mpr ⟨h1, h32⟩
  simp [execSetExpectedBits, hlegal, hidle]

theorem execSwitchChannel_legal (hc : c = 1 ∨ c = 2) :
    execSwitchChannel c s = .next ((s.setChannel (BitVec.ofNat 2 c)).respond .ok 0#32) :=
  if_pos (by simpa [legalChannel] using hc)

theorem execSwitchChannel_illegal (hc : ¬ (c = 1 ∨ c = 2)) : execSwitchChannel c s = .next (s.raise .errIllegal) :=
  if_neg (by simpa [legalChannel] using hc)

/-- The silence as a number of microseconds, for legal `n` (R132, R133). -/
theorem postRxSilence_eq_ofNat (hn : n ≤ 32) : postRxSilence n = BitVec.ofNat 32 (40000 - (800 * n + 1) - 1600) := by
  refine BitVec.eq_of_toNat_eq ?_
  rw [postRxSilence_toNat hn, BitVec.toNat_ofNat]
  omega

/-- Without `SUPPRESS_STICKY` the value held does not count (R136, D10). -/
theorem recomputedSilence_not_sticky {p : Config.Params} (hp : p.suppressSticky = false) (held : Word) (n : Nat) :
    recomputedSilence p held n = postRxSilence n := by
  simp [recomputedSilence, hp]

/-! What they write. -/

/-- `s` with the Configuration registers of `c`, answering `(st, 0)`. -/
def State.configuredAs (s c : State) (st : Status) : State :=
  { s with
    expectedBits := c.expectedBits
    packetLengthMicros := c.packetLengthMicros
    postRxSilenceMicros := c.postRxSilenceMicros
    channel := c.channel
    response := some ⟨st, 0#32⟩ }

/-- A configuration command writes Configuration registers and the response, the same at every `now` (R130). -/
theorem exec_configuration {i : Instr}
    (hi : (∃ n, i = .setExpectedBits n) ∨ (∃ c, i = .switchChannel c) ∨ i = .suppressPostRxSilence) (s : State) :
    ∃ (c : State) (st : Status), ∀ now' : Word,
      exec i { s with now := now' } = .next { s.configuredAs c st with now := now' } := by
  obtain ⟨n, rfl⟩ | ⟨c, rfl⟩ | rfl := hi
  case inl =>
    by_cases hillegal : n = 0 ∨ 32 < n
    · exact ⟨s, .errIllegal, fun _ => execSetExpectedBits_illegal hillegal⟩
    have h1 : 1 ≤ n := by omega
    have h32 : n ≤ 32 := by omega
    by_cases hidle : s.bitCountdown = 0#7
    · exact ⟨s.setBitCount n, .ok, fun _ => execSetExpectedBits_idle h1 h32 hidle⟩
    · exact ⟨s, .errBusy, fun _ => execSetExpectedBits_busy h1 h32 hidle⟩
  case inr.inl =>
    by_cases hlegal : c = 1 ∨ c = 2
    · exact ⟨s.setChannel (BitVec.ofNat 2 c), .ok, fun _ => execSwitchChannel_legal hlegal⟩
    · exact ⟨s, .errIllegal, fun _ => execSwitchChannel_illegal hlegal⟩
  case inr.inr => exact ⟨s.setSilence 0#32, .ok, fun _ => rfl⟩

/-- Settles O42: the command's one outcome, the same at every `now`, taken at the state's own. -/
theorem configurationCommandsTouchNoCaptureState : Obligations.ConfigurationCommandsTouchNoCaptureState := by
  intro i s hi
  obtain ⟨c, st, hexec⟩ := exec_configuration hi s
  exact ⟨s.configuredAs c st, ⟨st, 0#32⟩, hexec s.now, rfl, rfl, ⟨rfl, rfl, rfl, rfl⟩, ⟨rfl, rfl, rfl⟩,
    ⟨rfl, rfl, rfl, rfl, rfl⟩, rfl, hexec⟩

/-- Settles O38: the decoder's equation and the command's three, with the silence in microseconds. -/
theorem setExpectedBitsByItsPseudocode : Obligations.SetExpectedBitsByItsPseudocode := by
  intro s n
  refine ⟨decode_setExpectedBits, execSetExpectedBits_illegal, execSetExpectedBits_busy, fun h1 h32 hidle hsticky => ?_⟩
  rw [← postRxSilence_eq_ofNat h32, ← recomputedSilence_not_sticky hsticky s.postRxSilenceMicros n]
  exact execSetExpectedBits_idle h1 h32 hidle

/-- Settles O39: a word of fixed bits, and a command with neither an operand nor a phase to check. -/
theorem suppressForcesSilenceToZero : Obligations.SuppressForcesSilenceToZero :=
  ⟨rfl, fun _ => rfl⟩

end Sys2Proof.Machine
end

section
/-! PROOFS. The Edge Watcher: the next state of each branch of `EDGE` (R152 to R155), what every `EDGE` stamps (R151), and the
suppressed silence (R161). -/

namespace Sys2Proof.Machine

variable {s t : State}

/-! The branches of `EDGE`: one equation per case. -/

/-- Branch A. -/
theorem execEdge_low_of_capture (hcapture : s.bitCountdown ≠ 0#7) :
    execEdge .low s = .next ((s.observeEdge .low).addHighTime s.elapsed) :=
  if_pos ⟨hcapture, rfl⟩

/-- Branch B. -/
theorem execEdge_low_of_silence_passed (hidle : s.bitCountdown = 0#7) (hpassed : s.postRxSilenceMicros < s.elapsed) :
    execEdge .low s = .next (s.observeEdge .low).arm :=
  (if_neg fun hcapture => hcapture.1 hidle).trans (if_pos ⟨rfl, hpassed⟩)

/-- Branch C (b). -/
theorem execEdge_low_of_inside_silence (hidle : s.bitCountdown = 0#7) (hinside : s.elapsed ≤ s.postRxSilenceMicros) :
    execEdge .low s = .next (s.observeEdge .low) :=
  (if_neg fun hcapture => hcapture.1 hidle).trans (if_neg fun harm => BitVec.not_lt.mpr hinside harm.2)

/-- Branch C (a). -/
theorem execEdge_high (s : State) : execEdge .high s = .next (s.observeEdge .high) := by
  simp [execEdge]

/-! What the branches leave behind. -/

theorem execEdge_stamps {l : Level} (h : execEdge l s = .next t) : t.referenceTime = s.now ∧ t.lineLevel = l := by
  obtain ⟨-, -, rfl⟩ | ⟨-, -, -, rfl⟩ | ⟨-, rfl⟩ := execEdge_cases h <;> exact ⟨rfl, rfl⟩

/-- The actions of arming, taken by a Tick Source in any state: enabled, 800 µs, counting from 0 (R254, R264). -/
theorem apply_arm_tsActions (ts : TickSource) (hdisable : s.tsActions.disable = false) :
    ts.apply s.arm.tsActions = ⟨true, 800#16, 0#16⟩ := by
  simp [TickSource.apply, Config.startTickUs, hdisable]

/-- A suppressed silence is passed as soon as `now`, modulo 2^32, differs from `referenceTime`. -/
theorem silence_passed_iff_of_suppressed (hsuppressed : s.postRxSilenceMicros = 0#32) :
    s.postRxSilenceMicros < s.elapsed ↔ s.now ≠ s.referenceTime := by
  rw [hsuppressed]
  exact (BitVec.pos_iff_ne_zero s.elapsed).trans sub_ne_zero

/-- Settles O10: an `EDGE` is always answered, and each of its branches keeps what the prologue stamped. -/
theorem everyEdgeStampsTimeAndLevel : Obligations.EveryEdgeStampsTimeAndLevel := by
  intro l s
  obtain ⟨t, h⟩ := exec_answers (.edge l) s
  exact ⟨t, h, execEdge_stamps h⟩

/-- Settles O11: branch A, its register writes written out. -/
theorem fallingEdgeInCaptureAddsHighTime : Obligations.FallingEdgeInCaptureAddsHighTime :=
  fun _ => execEdge_low_of_capture

/-- Settles O12: branch B past the silence, with its actions applied to the Tick Source; branch C at equality. -/
theorem fallingEdgeAfterSilenceArms : Obligations.FallingEdgeAfterSilenceArms := by
  intro s hidle
  refine ⟨fun hpassed => ?_, fun hequal => execEdge_low_of_inside_silence hidle (BitVec.le_of_eq hequal)⟩
  have harm : exec (.edge .low) s = .next (s.observeEdge .low).arm := execEdge_low_of_silence_passed hidle hpassed
  exact ⟨harm, fun hdisable => ⟨_, harm, apply_arm_tsActions _ hdisable⟩⟩

/-- Settles O13: the two cases of branch C. -/
theorem otherEdgesOnlyStamp : Obligations.OtherEdgesOnlyStamp := by
  intro l s hother
  cases l with
  | high => exact execEdge_high s
  | low =>
    obtain ⟨hidle, hinside⟩ := hother.resolve_left (by decide)
    exact execEdge_low_of_inside_silence hidle hinside

/-- Settles O17: at a suppressed silence, branch B and branch C are told apart by `now` and `referenceTime` alone. -/
theorem suppressedSilenceArmsOnAnyElapsedTime : Obligations.SuppressedSilenceArmsOnAnyElapsedTime := by
  intro s hidle hsuppressed
  have hiff := silence_passed_iff_of_suppressed hsuppressed
  by_cases hnow : s.now = s.referenceTime
  · have hinside : s.elapsed ≤ s.postRxSilenceMicros := BitVec.not_lt.mp fun hpassed => hiff.mp hpassed hnow
    exact ⟨_, execEdge_low_of_inside_silence hidle hinside, absurd hnow, fun _ => hidle⟩
  · exact ⟨_, execEdge_low_of_silence_passed hidle (hiff.mpr hnow), fun _ => rfl, (absurd · hnow)⟩

end Sys2Proof.Machine
end

section
/-! PROOFS. The first tick of a capture: what the prologue of a `TICK` leaves (R172), how the first tick is told (R173), and its
two ends at the start window (R174 to R176). -/

namespace Sys2Proof.Machine

variable {s : State}

/-- The start windows as the model tests them are those of R174. -/
theorem inWindow_iff_startWindow (closed : Bool) (c : BitVec 2) (h : Word) :
    inWindow closed c h = true ↔ StartWindow closed c h.toNat := by
  unfold inWindow StartWindow
  by_cases h1 : c = 1#2
  · cases closed <;> simp [h1, between_closed, between_open, Config.ch1StartLoUs, Config.ch1StartHiUs]
  by_cases h2 : c = 2#2
  · cases closed <;> simp [h2, between_closed, between_open, Config.ch2StartLoUs, Config.ch2StartHiUs]
  · simp [h1, h2]

/-- The prologue of a `TICK` closes the slot's high time into the accumulator (R172). -/
theorem observeTick_eq (s : State) :
    s.observeTick = { s with
      bitCountdown := s.bitCountdown - 1#7
      referenceTime := s.now
      highTimeAccumulator := s.slotHigh } := by
  unfold State.observeTick State.slotHigh
  by_cases hline : s.lineLevel = .high
  · rw [if_pos hline, if_pos hline]; rfl
  · rw [if_neg hline, if_neg hline]; rfl

theorem armCount_ne_zero (n : BitVec 6) : armCount n ≠ 0#7 := by
  intro hzero
  have htoNat := armCount_toNat n
  rw [hzero, BitVec.toNat_ofNat] at htoNat
  omega

/-- From the arming count the prologue counts down to the slot count (R173). -/
theorem armCount_pred (n : BitVec 6) : armCount n - 1#7 = slotCount n :=
  (first_tick_iff n (armCount_ne_zero n)).mpr (armCount_toNat n)

/-- A `TICK` that finds the arming count is the first of its capture (R173). -/
theorem execTick_of_armed (harmed : s.bitCountdown = armCount s.expectedBits) :
    execTick s = .next s.observeTick.startTick := by
  have hcapture : s.bitCountdown ≠ 0#7 := harmed ▸ armCount_ne_zero s.expectedBits
  have hfirst : s.observeTick.bitCountdown = slotCount s.expectedBits := by
    rw [observeTick_bitCountdown, harmed, armCount_pred]
  exact (if_neg hcapture).trans (if_pos hfirst)

/-- The window is tested at the slot's high time (R172, R174). -/
theorem startTick_observeTick (s : State) :
    s.observeTick.startTick =
      if inWindow s.params.windowClosed s.channel s.slotHigh then s.observeTick.acceptStart
      else s.observeTick.abortCapture := by
  rw [observeTick_eq]; rfl

/-- Settles O21: the armed tick passes at the window, and its countdown is the arming count less one. -/
theorem firstTickInWindowGoesOn : Obligations.FirstTickInWindowGoesOn := by
  intro s harmed hwindow
  have hpass : s.observeTick.startTick = s.observeTick.acceptStart :=
    (startTick_observeTick s).trans (if_pos ((inWindow_iff_startWindow _ _ _).mpr hwindow))
  have hcount : s.bitCountdown - 1#7 = slotCount s.expectedBits := harmed ▸ armCount_pred s.expectedBits
  calc exec .tick s
    _ = .next s.observeTick.startTick := execTick_of_armed harmed
    _ = .next s.observeTick.acceptStart := by rw [hpass]
    _ = _ := by rw [observeTick_eq, hcount]; rfl

/-- Settles O22: the armed tick fails at the window, and the abort writes again each register that the prologue wrote. -/
theorem firstTickOutsideWindowAborts : Obligations.FirstTickOutsideWindowAborts := by
  intro s harmed hwindow
  have habort : s.observeTick.startTick = s.observeTick.abortCapture :=
    (startTick_observeTick s).trans (if_neg (mt (inWindow_iff_startWindow _ _ _).mp hwindow))
  calc exec .tick s
    _ = .next s.observeTick.startTick := execTick_of_armed harmed
    _ = .next s.observeTick.abortCapture := by rw [habort]
    _ = _ := by rw [observeTick_eq]; rfl

end Sys2Proof.Machine
end

section
/-! PROOFS. `CHECK_DATA`: one answer, a function of the flag and the sample (R200 to R204). -/

namespace Sys2Proof.Machine

variable {s : State}

/-- What `CHECK_DATA` answers: no data without a publication, else what the pairs decode to (R201, R203, R204). -/
def State.checkDataAnswer (s : State) : Response :=
  if s.packetReadyFlag then
    match decodePairs s.rawWords s.expectedBits.toNat 0#32 with
    | some v => ⟨.ok, v⟩
    | none => ⟨.invalid, 0#32⟩
  else ⟨.noData, 0#32⟩

/-- `CHECK_DATA` clears the flag, gives its answer and leaves the rest (R200). -/
theorem exec_checkData_eq (s : State) :
    exec .checkData s = .next { s with packetReadyFlag := false, response := some s.checkDataAnswer } :=
  execCheckData_eq s

theorem checkDataAnswer_of_not_ready (hflag : s.packetReadyFlag = false) : s.checkDataAnswer = ⟨.noData, 0#32⟩ := by
  simp [State.checkDataAnswer, hflag]

theorem checkDataAnswer_of_decoded {v : Word} (hflag : s.packetReadyFlag = true)
    (hpairs : decodePairs s.rawWords s.expectedBits.toNat 0#32 = some v) : s.checkDataAnswer = ⟨.ok, v⟩ := by
  simp [State.checkDataAnswer, hflag, hpairs]

theorem checkDataAnswer_of_undecoded (hflag : s.packetReadyFlag = true)
    (hpairs : decodePairs s.rawWords s.expectedBits.toNat 0#32 = none) : s.checkDataAnswer = ⟨.invalid, 0#32⟩ := by
  simp [State.checkDataAnswer, hflag, hpairs]

/-- The answer does not read the Clock (R200). -/
theorem checkDataAnswer_now (s : State) (now' : Word) :
    ({ s with now := now' } : State).checkDataAnswer = s.checkDataAnswer := rfl

theorem checkDataAnswer_cases (s : State) :
    s.checkDataAnswer.status = .ok ∨ s.checkDataAnswer = ⟨.noData, 0#32⟩ ∨ s.checkDataAnswer = ⟨.invalid, 0#32⟩ := by
  cases hflag : s.packetReadyFlag with
  | false => exact .inr (.inl (checkDataAnswer_of_not_ready hflag))
  | true =>
    cases hpairs : decodePairs s.rawWords s.expectedBits.toNat 0#32 with
    | none => exact .inr (.inr (checkDataAnswer_of_undecoded hflag hpairs))
    | some v => exact .inl (congrArg Response.status (checkDataAnswer_of_decoded hflag hpairs))

/-- Settles O32: the flag that `CHECK_DATA` clears is clear already. -/
theorem checkDataWithoutSample : Obligations.CheckDataWithoutSample := by
  intro s hflag
  calc exec .checkData s
    _ = .next { s with packetReadyFlag := false, response := some s.checkDataAnswer } := exec_checkData_eq s
    _ = .next { s with response := some ⟨.noData, 0#32⟩ } := by rw [checkDataAnswer_of_not_ready hflag, ← hflag]

/-- Settles O34: the bad pair ends the pairing without a value, wherever it stands. -/
theorem badPairIsInvalid : Obligations.BadPairIsInvalid := by
  intro s j hflag hj hpair
  have hnone : decodePairs s.rawWords s.expectedBits.toNat 0#32 = none := decodePairs_eq_none hj hpair 0#32
  rw [exec_checkData_eq, checkDataAnswer_of_undecoded hflag hnone]

/-- Settles O35: the one response is the answer at the state's own `now`. -/
theorem checkDataFrame : Obligations.CheckDataFrame := by
  intro s
  refine ⟨s.checkDataAnswer, fun now' => ?_, checkDataAnswer_cases s⟩
  rw [exec_checkData_eq, checkDataAnswer_now]

end Sys2Proof.Machine
end

section
/-! PROOFS. The accessor: its word and its one effect (R220). -/

namespace Sys2Proof.Machine

/-- Settles O45: a word of fixed bits, and an operation that neither splits on the phase nor writes more than the response. -/
theorem lastPacketStartTimeAnswersTheRegister : Obligations.LastPacketStartTimeAnswersTheRegister := by
  have hword : decode (.cmd 0x1000#16) = .op .lastPacketStartTime := by decide
  refine ⟨hword, fun s => ?_⟩
  calc exec .lastPacketStartTime s
    _ = .next (s.respond .ok s.packetStartTime) := rfl
    _ = .next { s with response := some ⟨.ok, s.packetStartTime⟩ } := rfl

end Sys2Proof.Machine
end

section
/-! PROOFS. The words: decode and encode agree, and which command words are reserved (R97 to R103, R107). -/

namespace Sys2Proof

/-! From an operation to its word and back. -/

theorem decode_switchChannel {c : Nat} (hc : c < 64) :
    decode (.cmd (0x2000#16 + BitVec.ofNat 16 c)) = .op (.switchChannel c) := by
  have hw : (0x2000#16 + BitVec.ofNat 16 c).toNat = 4096 * 2 + c := by
    simp only [BitVec.toNat_add, BitVec.toNat_ofNat]; omega
  obtain ⟨hop, hzero, harg⟩ := cmd6_fields (by decide) hc hw
  simp [decode, decodeCmd, hop, hzero, harg]

theorem fitsArg_iff {n : Nat} : fitsArg n = true ↔ n < 64 := decide_eq_true_iff

/-- Settles O1: words of fixed bits, but for the two commands that carry an operand. -/
theorem decodeOfEncodeIsTheOperation : Obligations.DecodeOfEncodeIsTheOperation := by
  intro i hi
  cases i with
  | reset => rfl
  | edge l => cases l <;> rfl
  | tick => rfl
  | checkData => rfl
  | lastPacketStartTime => rfl
  | switchChannel c => exact decode_switchChannel (fitsArg_iff.mp hi)
  | setExpectedBits n => exact decode_setExpectedBits (fitsArg_iff.mp hi)
  | suppressPostRxSilence => rfl

/-! From a word to the operation it selects. -/

/-- A word of one bit selects `i` where that bit is set, and nothing else. -/
theorem op_of_bit {v : BitVec 1} {i j : Instr} (h : (if v = 1#1 then Decoded.op j else .noEvent) = .op i) :
    v = 1#1 ∧ j = i := by
  split at h
  · exact ⟨‹_›, Decoded.op.inj h⟩
  · cases h

/-- `edge_valid` and `edge_level` are the whole word (R97). -/
theorem append_level_bit_eq {v : BitVec 2} (hvalid : v.extractLsb' 1 1 = 1#1) :
    1#1 ++ (Level.ofBit (v.extractLsb' 0 1)).bit = v := by
  revert v
  decide

theorem encode_of_decodeEdge {v : BitVec 2} {i : Instr} (h : decodeEdge v = .op i) :
    encode i = .edge v ∧ i.wellFormed = true := by
  unfold decodeEdge at h
  split at h
  · cases h
    exact ⟨congrArg PinWord.edge (append_level_bit_eq ‹_›), rfl⟩
  · cases h

/-- A command word without bits in `cmd[11:6]` is its op code and its operand (R100). -/
theorem command_eq_ofNat {w : Command} {op : BitVec 4} (hop : cmdOp w = op) (hzero : cmdZero w = 0#6) :
    w = BitVec.ofNat 16 (4096 * op.toNat) + BitVec.ofNat 16 (cmdArg w).toNat := by
  have hfields := command_fields w
  rw [hop, hzero] at hfields
  rw [← BitVec.ofNat_add]
  refine BitVec.eq_of_toNat_eq ?_
  have hop_lt := op.isLt
  have harg_lt := (cmdArg w).isLt
  rw [BitVec.toNat_ofNat, Nat.mod_eq_of_lt (by omega)]
  simpa using hfields

theorem encode_of_decodeCmd {w : Command} {i : Instr} (h : decodeCmd w = .op i) :
    encode i = .cmd w ∧ i.wellFormed = true := by
  obtain ⟨hzero, hcase⟩ := decodeCmd_op h
  have harg_fits : fitsArg (cmdArg w).toNat = true := fitsArg_iff.mpr (cmdArg_toNat_lt w)
  obtain ⟨hop, harg, rfl⟩ | ⟨hop, harg, rfl⟩ | ⟨hop, rfl⟩ | ⟨hop, rfl⟩ | ⟨hop, harg, rfl⟩ := hcase <;>
    have hword := command_eq_ofNat hop hzero
  · rw [harg] at hword
    exact ⟨congrArg PinWord.cmd hword.symm, rfl⟩
  · rw [harg] at hword
    exact ⟨congrArg PinWord.cmd hword.symm, rfl⟩
  · exact ⟨congrArg PinWord.cmd hword.symm, harg_fits⟩
  · exact ⟨congrArg PinWord.cmd hword.symm, harg_fits⟩
  · rw [harg] at hword
    exact ⟨congrArg PinWord.cmd hword.symm, rfl⟩

/-- Settles O2: group by group, the word is put together again from the fields that the decoder tested. -/
theorem onlyTheEncodersWordSelects : Obligations.OnlyTheEncodersWordSelects := by
  intro w i h
  cases w with
  | rst v => obtain ⟨rfl, rfl⟩ := op_of_bit h; exact ⟨rfl, rfl⟩
  | edge v => exact encode_of_decodeEdge h
  | tick v => obtain ⟨rfl, rfl⟩ := op_of_bit h; exact ⟨rfl, rfl⟩
  | cmd w => exact encode_of_decodeCmd h

/-! The reserved words. -/

theorem decodeCmd0_eq_reserved_iff {w : Command} {i : Instr} : decodeCmd0 w i = .reserved ↔ cmdArg w ≠ 0#6 := by
  unfold decodeCmd0
  split <;> simp_all

theorem decodeCmd0_ne_noEvent (w : Command) (i : Instr) : decodeCmd0 w i ≠ .noEvent := by
  unfold decodeCmd0
  split <;> simp

/-- An op code that is none of the five commands' is 5 or more. -/
theorem five_le_of_no_command {op : BitVec 4} (h0 : op ≠ 0#4) (h1 : op ≠ 1#4) (h2 : op ≠ 2#4) (h3 : op ≠ 3#4)
    (h4 : op ≠ 4#4) : 5 ≤ op.toNat := by
  revert op
  decide

/-- The reserved words, in the order in which the decoder tests the fields (R103). -/
theorem decodeCmd_eq_reserved_iff (w : Command) :
    decodeCmd w = .reserved ↔
      5 ≤ (cmdOp w).toNat ∨ cmdZero w ≠ 0#6 ∨ (cmdOp w ∈ [0#4, 1#4, 4#4] ∧ cmdArg w ≠ 0#6) := by
  unfold decodeCmd
  split_ifs with hzero h0 h1 h2 h3 h4
  · simp [hzero]
  · simp [decodeCmd0_eq_reserved_iff, not_not.mp hzero, h0]
  · simp [decodeCmd0_eq_reserved_iff, not_not.mp hzero, h1]
  · simp [not_not.mp hzero, h2]
  · simp [not_not.mp hzero, h3]
  · simp [decodeCmd0_eq_reserved_iff, not_not.mp hzero, h4]
  · simp [five_le_of_no_command h0 h1 h2 h3 h4]

/-- Every command word is answered (R103). -/
theorem decodeCmd_ne_noEvent (w : Command) : decodeCmd w ≠ .noEvent := by
  unfold decodeCmd
  split_ifs <;> simp [decodeCmd0_ne_noEvent]

/-- Settles O3: the decoder's reserved words and their answer. -/
theorem reservedWordsAnswerErrIllegal : Obligations.ReservedWordsAnswerErrIllegal := by
  intro w
  refine ⟨decodeCmd_eq_reserved_iff w, decodeCmd_ne_noEvent w, fun s hreserved => ?_, fun p hvalid => ?_⟩
  · rw [hreserved]; rfl
  · simp [Machine.InPins.command, hvalid]

/-- Settles O4: each word is decoded by evaluation. -/
theorem writtenOutWordsDecode : Obligations.WrittenOutWordsDecode := by
  unfold Obligations.WrittenOutWordsDecode
  decide

end Sys2Proof
end

section
/-! PROOFS. What each operation leaves unchanged (R36, R37), how it changes `bitCountdown` (R26), and what the host sees of it
(R104). -/

namespace Sys2Proof.Machine

variable {s t : State}

/-! `EDGE`. -/

/-- An `EDGE` arms, or it leaves the countdown and the Tick Source actions as they were (R152). -/
theorem execEdge_arms_or_keeps {l : Level} (h : execEdge l s = .next t) :
    ((s.bitCountdown = 0#7 ∧ l = .low ∧ s.postRxSilenceMicros < s.elapsed) ∧ t = (s.observeEdge l).arm) ∨
    (¬ (s.bitCountdown = 0#7 ∧ l = .low ∧ s.postRxSilenceMicros < s.elapsed) ∧
      t.bitCountdown = s.bitCountdown ∧ t.tsActions = s.tsActions) := by
  obtain ⟨hcapture, -, rfl⟩ | ⟨hidle, hlow, hpassed, rfl⟩ | ⟨hother, rfl⟩ := execEdge_cases h
  · exact .inr ⟨fun harm => hcapture harm.1, rfl, rfl⟩
  · exact .inl ⟨⟨hidle, hlow, hpassed⟩, rfl⟩
  · refine .inr ⟨?_, rfl, rfl⟩
    rintro ⟨-, hlow, hpassed⟩
    obtain hhigh | ⟨-, hinside⟩ := hother
    · cases hlow.symm.trans hhigh
    · exact hinside hpassed

theorem execEdge_frame {l : Level} (h : execEdge l s = .next t) :
    s.SameConfiguration t ∧ s.SameEnvironment t ∧ t.response = s.response := by
  obtain ⟨-, -, rfl⟩ | ⟨-, -, -, rfl⟩ | ⟨-, rfl⟩ := execEdge_cases h <;>
    simp [State.SameConfiguration, State.SameEnvironment]

/-- Only a falling edge in a capture touches the accumulator (R153). -/
theorem execEdge_keeps_accumulator {l : Level} (hl : l = .high ∨ s.bitCountdown = 0#7) (h : execEdge l s = .next t) :
    t.highTimeAccumulator = s.highTimeAccumulator := by
  obtain ⟨hcapture, hlow, -⟩ | ⟨-, -, -, rfl⟩ | ⟨-, rfl⟩ := execEdge_cases h
  · obtain hhigh | hidle := hl
    · cases hlow.symm.trans hhigh
    · exact absurd hidle hcapture
  · simp
  · simp

/-- The old `lineLevel` is overwritten before anything could read it (R151, R159). -/
theorem execEdge_setLineLevel (l old : Level) (s : State) : execEdge l (s.setLineLevel old) = execEdge l s := rfl

/-- Settles O14: a capture excludes arming. -/
theorem noEdgeArmsDuringACapture : Obligations.NoEdgeArmsDuringACapture := by
  intro l s hcapture
  obtain ⟨t, h⟩ := exec_answers (.edge l) s
  obtain ⟨⟨hidle, -⟩, -⟩ | ⟨-, hkeeps⟩ := execEdge_arms_or_keeps h
  · exact absurd hidle hcapture
  · exact ⟨t, h, hkeeps⟩

/-- Settles O15: what no branch of `EDGE` writes, then what only one of them writes. -/
theorem edgeFrame : Obligations.EdgeFrame := by
  intro l s t h
  obtain ⟨hconfig, henv, hresponse⟩ := execEdge_frame h
  refine ⟨execEdge_samePublished h, hconfig, henv, hresponse, fun hl => execEdge_keeps_accumulator hl h, fun hother => ?_⟩
  obtain ⟨⟨hidle, hlow, hpassed⟩, -⟩ | ⟨-, hkeeps⟩ := execEdge_arms_or_keeps h
  · obtain hhigh | hcapture | hinside := hother
    · cases hlow.symm.trans hhigh
    · exact absurd hidle hcapture
    · exact absurd hpassed (Nat.not_lt.mpr hinside)
  · exact hkeeps

/-- Settles O16: any two old levels give the same next state. -/
theorem edgeDirectionIsTheOperands : Obligations.EdgeDirectionIsTheOperands := by
  intro l old s
  obtain ⟨t, h⟩ := exec_answers (.edge l) s
  exact ⟨t, (execEdge_setLineLevel l old s).trans h, h⟩

/-! `TICK`. -/

theorem execTick_idle (hidle : s.bitCountdown = 0#7) : execTick s = .next s := if_pos hidle

/-- The prologue leaves the slot's whole high time in the accumulator (R172, R182). -/
theorem observeTick_accumulator (s : State) : s.observeTick.highTimeAccumulator = s.slotHigh := by
  rw [observeTick_eq]

theorem execTick_frame (h : execTick s = .next t) :
    t.lineLevel = s.lineLevel ∧ s.SameConfiguration t ∧ s.SameEnvironment t ∧ t.response = s.response := by
  obtain ⟨-, rfl⟩ | ⟨-, -, -, rfl⟩ | ⟨-, -, -, rfl⟩ | ⟨-, -, -, rfl⟩ | ⟨-, -, rfl⟩ := execTick_cases h <;>
    simp [State.SameConfiguration, State.SameEnvironment]

/-- How a `TICK` changes the countdown (R26, R173). -/
theorem execTick_countdown (h : execTick s = .next t) :
    t.bitCountdown.toNat =
      if s.bitCountdown.toNat = 2 * s.expectedBits.toNat + 1 ∧
        inWindow s.params.windowClosed s.channel s.slotHigh = false
      then 0 else s.bitCountdown.toNat - 1 := by
  obtain ⟨hidle, rfl⟩ | ⟨hcapture, -, hwindow, rfl⟩ | ⟨-, hfirst, hwindow, rfl⟩ | ⟨hcapture, hlater, -, rfl⟩ |
    ⟨hlast, hlater, rfl⟩ := execTick_cases h
  · simp [hidle]
  · rw [observeTick_accumulator] at hwindow
    simp [hwindow, countdown_pred_toNat hcapture]
  · rw [observeTick_accumulator] at hwindow
    simp [hwindow, hfirst]
  · simp [hlater, countdown_pred_toNat hcapture]
  · rw [if_neg fun habort => hlater habort.1, hlast]
    simp [hlast]

/-- Settles O19: the first test of `TICK`. -/
theorem tickWhileIdleChangesNothing : Obligations.TickWhileIdleChangesNothing :=
  fun _ => execTick_idle

/-- Settles O20: the two bounds of each channel's window lie apart. -/
theorem startWindowsInNumbers : Obligations.StartWindowsInNumbers := by
  refine ⟨inWindow_iff_startWindow, fun closed h => ?_⟩
  cases closed <;> simp [StartWindow] <;> omega

/-! The host commands. -/

/-- `s` with the Configuration registers of `c` and the given flag, answering `r`. -/
def State.answeredAs (s c : State) (flag : Bool) (r : Response) : State :=
  { s with
    expectedBits := c.expectedBits
    packetLengthMicros := c.packetLengthMicros
    postRxSilenceMicros := c.postRxSilenceMicros
    channel := c.channel
    packetReadyFlag := flag
    response := some r }

/-- `s` with other contents of the three in-progress fields and the Clock that R37 hides from the host. -/
def State.withHidden (s : State) (acc ref now : Word) (l : Level) : State :=
  { s with highTimeAccumulator := acc, referenceTime := ref, lineLevel := l, now := now }

theorem checkDataAnswer_data (s : State) (hr : s.checkDataAnswer.status ≠ .ok) : s.checkDataAnswer.data = 0#32 := by
  obtain hok | hnoData | hinvalid := checkDataAnswer_cases s
  · exact absurd hok hr
  · rw [hnoData]
  · rw [hinvalid]

/-- A host command writes Configuration, the flag and the response, the same whatever the hidden fields hold (R36, R37, R104). -/
theorem exec_hostCommand {i : Instr} (hi : isHostCommand i = true) (s : State) :
    ∃ (c : State) (flag : Bool) (r : Response), (r.status ≠ .ok → r.data = 0#32) ∧
      ∀ (acc ref now : Word) (l : Level),
        exec i (s.withHidden acc ref now l) = .next ((s.answeredAs c flag r).withHidden acc ref now l) := by
  cases i with
  | reset => cases hi
  | edge l => cases hi
  | tick => cases hi
  | checkData => exact ⟨s, false, s.checkDataAnswer, checkDataAnswer_data s, fun _ _ _ _ => exec_checkData_eq _⟩
  | lastPacketStartTime =>
    exact ⟨s, s.packetReadyFlag, ⟨.ok, s.packetStartTime⟩, fun hne => absurd rfl hne, fun _ _ _ _ => rfl⟩
  | switchChannel c =>
    by_cases hlegal : c = 1 ∨ c = 2
    · exact ⟨s.setChannel (BitVec.ofNat 2 c), s.packetReadyFlag, ⟨.ok, 0#32⟩, fun _ => rfl,
        fun _ _ _ _ => execSwitchChannel_legal hlegal⟩
    · exact ⟨s, s.packetReadyFlag, ⟨.errIllegal, 0#32⟩, fun _ => rfl, fun _ _ _ _ => execSwitchChannel_illegal hlegal⟩
  | setExpectedBits n =>
    by_cases hillegal : n = 0 ∨ 32 < n
    · exact ⟨s, s.packetReadyFlag, ⟨.errIllegal, 0#32⟩, fun _ => rfl, fun _ _ _ _ => execSetExpectedBits_illegal hillegal⟩
    have h1 : 1 ≤ n := by omega
    have h32 : n ≤ 32 := by omega
    by_cases hidle : s.bitCountdown = 0#7
    · exact ⟨s.setBitCount n, s.packetReadyFlag, ⟨.ok, 0#32⟩, fun _ => rfl,
        fun _ _ _ _ => execSetExpectedBits_idle h1 h32 hidle⟩
    · exact ⟨s, s.packetReadyFlag, ⟨.errBusy, 0#32⟩, fun _ => rfl,
        fun _ _ _ _ => execSetExpectedBits_busy h1 h32 hidle⟩
  | suppressPostRxSilence =>
    exact ⟨s.setSilence 0#32, s.packetReadyFlag, ⟨.ok, 0#32⟩, fun _ => rfl, fun _ _ _ _ => rfl⟩

/-- The next state of a host command, and its response. -/
theorem hostCommand_answers {i : Instr} (hi : isHostCommand i = true) (h : exec i s = .next t) :
    ∃ (c : State) (flag : Bool) (r : Response), (r.status ≠ .ok → r.data = 0#32) ∧ t = s.answeredAs c flag r := by
  obtain ⟨c, flag, r, hdata, hexec⟩ := exec_hostCommand hi s
  have ht := (hexec s.highTimeAccumulator s.referenceTime s.now s.lineLevel).symm.trans h
  exact ⟨c, flag, r, hdata, (Host.Outcome.next.inj ht).symm⟩

/-- The frame of the host commands (R36). -/
theorem hostCommand_frame {i : Instr} (hi : isHostCommand i = true) (h : exec i s = .next t) :
    s.SameInProgress t ∧ t.rawWords = s.rawWords ∧ s.SameEnvironment t ∧ t.tsActions = s.tsActions := by
  obtain ⟨c, flag, r, -, rfl⟩ := hostCommand_answers hi h
  exact ⟨⟨rfl, rfl, rfl, rfl⟩, rfl, ⟨rfl, rfl, rfl, rfl, rfl⟩, rfl⟩

/-- Settles O43: one next state but for the hidden fields. -/
theorem hostNeverSeesInProgressFields : Obligations.HostNeverSeesInProgressFields := by
  intro i s acc ref now l hi
  obtain ⟨c, flag, r, -, hexec⟩ := exec_hostCommand hi s
  exact ⟨s.answeredAs c flag r, hexec s.highTimeAccumulator s.referenceTime s.now s.lineLevel, hexec acc ref now l⟩

/-! All operations. -/

/-- No operation writes the Clock, the platform, the parameters or the inputs (R36). -/
theorem exec_sameEnvironment {i : Instr} (h : exec i s = .next t) : s.SameEnvironment t := by
  cases hi : isHostCommand i with
  | true => exact (hostCommand_frame hi h).2.2.1
  | false =>
    cases i with
    | reset => cases h; exact ⟨rfl, rfl, rfl, rfl, rfl⟩
    | edge l => exact (execEdge_frame h).2.1
    | tick => exact (execTick_frame h).2.2.1
    | checkData | lastPacketStartTime | switchChannel | setExpectedBits | suppressPostRxSilence => cases hi

/-- Settles O26: the frame of `TICK`, and of every operation on the environment. -/
theorem tickAndEnvironmentFrame : Obligations.TickAndEnvironmentFrame := by
  refine ⟨fun s t h => ?_, fun i s t => exec_sameEnvironment⟩
  obtain ⟨hline, hconfig, -, hresponse⟩ := execTick_frame h
  exact ⟨hline, hconfig, hresponse⟩

/-- A host command leaves the countdown as it was (R26). -/
theorem hostCommand_countdown {i : Instr} (hi : isHostCommand i = true) (h : exec i s = .next t) :
    t.bitCountdown.toNat = s.bitCountdown.toNat :=
  congrArg BitVec.toNat (hostCommand_frame hi h).1.1

/-- Settles O27: arming, the ticks, `RESET`; no host command writes the countdown. -/
theorem countdownChangesByTheTable : Obligations.CountdownChangesByTheTable := by
  intro i s t h
  cases i with
  | reset => cases h; rfl
  | edge l =>
    obtain ⟨harm, rfl⟩ | ⟨hother, hcount, -⟩ := execEdge_arms_or_keeps h
    · exact (armCount_toNat _).trans (if_pos harm).symm
    · exact (congrArg BitVec.toNat hcount).trans (if_neg hother).symm
  | tick => exact execTick_countdown h
  | checkData | lastPacketStartTime | switchChannel | setExpectedBits | suppressPostRxSilence =>
    exact hostCommand_countdown rfl h

end Sys2Proof.Machine
end

section
/-! PROOFS. Configuration in numbers: channels, suppression, reset (R135 to R137, R280). -/

namespace Sys2Proof.Machine

/-- Settles O41: the two answers to an operand. -/
theorem switchChannelLegalAndIllegal : Obligations.SwitchChannelLegalAndIllegal := by
  refine fun s c => ⟨execSwitchChannel_legal, fun h1 h2 => execSwitchChannel_illegal ?_⟩
  rintro (hc | hc)
  · exact h1 hc
  · exact h2 hc

/-- The silence in force after a suppression and a legal `SET_EXPECTED_BITS` (R136, U11). -/
theorem recomputedSilence_suppressed_toNat (p : Config.Params) {n : Nat} (hn : n ≤ 32) :
    (recomputedSilence p 0#32 n).toNat = if p.suppressSticky then 0 else 38399 - 800 * n := by
  cases hsticky : p.suppressSticky with
  | false => simp [recomputedSilence_not_sticky hsticky, postRxSilence_toNat hn]
  | true => simp [recomputedSilence, hsticky]

/-- Settles O40: the second command recomputes the silence from the 0 that the first left. -/
theorem suppressionThenSetExpectedBits : Obligations.SuppressionThenSetExpectedBits := by
  intro s n h1 h32 hidle
  exact ⟨_, _, rfl, execSetExpectedBits_idle h1 h32 hidle, recomputedSilence_suppressed_toNat s.params h32⟩

/-- Settles O46: the register writes of `RESET`, with the default parameters put in. -/
theorem resetPutsEveryRegister : Obligations.ResetPutsEveryRegister := by
  intro s hparams
  calc exec .reset s
    _ = .next s.resetRegisters := rfl
    _ = _ := by simp only [State.resetRegisters, hparams]; rfl

end Sys2Proof.Machine
end

section
/-! PROOFS. The Bit Sampler: what a later tick writes (R177 to R180), the high time of a slot (R182), and the order of an edge
and a tick of one microsecond (R184). -/

namespace Sys2Proof.Machine

variable {s t : State}

/-! Later ticks. -/

/-- A tick that is neither the first nor the last of its capture closes a slot. -/
theorem execTick_of_slot (hcapture : s.bitCountdown ≠ 0#7) (hlater : s.bitCountdown.toNat ≠ 2 * s.expectedBits.toNat + 1)
    (hnotLast : s.bitCountdown ≠ 1#7) : execTick s = .next s.observeTick.closeSlot := by
  obtain ⟨t, h⟩ := exec_answers .tick s
  obtain ⟨hidle, -⟩ | ⟨-, hfirst, -⟩ | ⟨-, hfirst, -⟩ | ⟨-, -, -, rfl⟩ | ⟨hlast, -⟩ := execTick_cases h
  · exact absurd hidle hcapture
  · exact absurd hfirst hlater
  · exact absurd hfirst hlater
  · exact h
  · exact absurd hlast hnotLast

/-- The last tick closes a slot and publishes (R180). -/
theorem execTick_of_last (hlast : s.bitCountdown = 1#7) (hlater : s.bitCountdown.toNat ≠ 2 * s.expectedBits.toNat + 1) :
    execTick s = .next s.observeTick.closeSlot.publish := by
  obtain ⟨t, h⟩ := exec_answers .tick s
  obtain ⟨hidle, -⟩ | ⟨-, hfirst, -⟩ | ⟨-, hfirst, -⟩ | ⟨-, -, hnotLast, -⟩ | ⟨-, -, rfl⟩ := execTick_cases h
  · cases hlast.symm.trans hidle
  · exact absurd hfirst hlater
  · exact absurd hfirst hlater
  · exact absurd (congrArg BitVec.toNat hlast) hnotLast
  · exact h

/-- What every later tick does to the slot, the last one too. -/
theorem execTick_closes_slot (hcapture : s.bitCountdown ≠ 0#7) (hlater : s.bitCountdown.toNat ≠ 2 * s.expectedBits.toNat + 1)
    (h : execTick s = .next t) :
    t.bitCountdown = s.bitCountdown - 1#7 ∧ t.referenceTime = s.now ∧ t.highTimeAccumulator = 0#32 ∧
      t.rawWords = s.observeTick.closeSlot.rawWords := by
  by_cases hlast : s.bitCountdown = 1#7
  · cases (execTick_of_last hlast hlater).symm.trans h
    simp
  · cases (execTick_of_slot hcapture hlater hlast).symm.trans h
    simp

/-- The raw bit that a later tick writes, one position below the countdown it finds (R177, R178). -/
theorem execTick_raw (hcapture : s.bitCountdown ≠ 0#7) (hlater : s.bitCountdown.toNat ≠ 2 * s.expectedBits.toNat + 1)
    (hle : s.bitCountdown.toNat ≤ 64) (h : execTick s = .next t) (p : Nat) :
    t.raw p = if p = s.bitCountdown.toNat - 1 then classify s.slotHigh else s.raw p := by
  have hpos : s.observeTick.bitCountdown.toNat = s.bitCountdown.toNat - 1 := by
    rw [observeTick_bitCountdown, countdown_pred_toNat hcapture]
  obtain ⟨-, -, -, hraw⟩ := execTick_closes_slot hcapture hlater h
  rw [raw_congr hraw, raw_closeSlot _ _ (by omega), hpos, observeTick_accumulator, raw_congr (observeTick_rawWords s)]

theorem ne_zero_of_countdown_pos (hpos : 0 < s.bitCountdown.toNat) : s.bitCountdown ≠ 0#7 := by
  rintro hzero
  simp [hzero] at hpos

/-- Settles O23: a later tick's slot, its frame, and the publication it leaves out unless it is the last. -/
theorem laterTickClassifiesItsSlot : Obligations.LaterTickClassifiesItsSlot := by
  intro s hpos hle hlater
  have hcapture := ne_zero_of_countdown_pos hpos
  obtain ⟨t, h⟩ := exec_answers .tick s
  obtain ⟨hcount, href, hacc, -⟩ := execTick_closes_slot hcapture hlater h
  obtain ⟨hline, hconfig, henv, hresponse⟩ := execTick_frame h
  refine ⟨t, h, ?_, href, hacc, fun p _ => execTick_raw hcapture hlater hle h p, hline, hconfig, henv, hresponse,
    fun hnotLast => ?_⟩
  · rw [hcount, countdown_pred_toNat hcapture]
  · have hnotLast' : s.bitCountdown ≠ 1#7 := fun hlast => hnotLast (congrArg BitVec.toNat hlast)
    cases (execTick_of_slot hcapture hlater hnotLast').symm.trans h
    simp

/-- Settles O24: the publication on top of a slot at raw position 0. -/
theorem lastTickPublishes : Obligations.LastTickPublishes := by
  intro s hlast hbits
  obtain ⟨-, hlater⟩ := publishesAtTick_iff.mp ⟨hlast, hbits⟩
  have hcapture : s.bitCountdown ≠ 0#7 := by simp [hlast]
  have h := execTick_of_last hlast hlater
  have hraw := execTick_raw hcapture hlater (by simp [hlast]) h 0
  refine ⟨_, h, ?_, rfl, ?_, ?_, rfl, ?_, ?_⟩
  · simp [hlast]
  · simp
  · exact hraw.trans (if_pos (by simp [hlast]))
  · simp
  · simp

/-! Transitions of the line in a capture. -/

/-- `s` after a transition to `l` at `now` in a capture: the stretch it closes is in the accumulator (R153). -/
def State.afterTransition (s : State) (l : Level) : State :=
  { s with referenceTime := s.now, lineLevel := l, highTimeAccumulator := s.slotHigh }

theorem slotHigh_eq (s : State) :
    s.slotHigh = s.highTimeAccumulator + if s.lineLevel = .high then s.now - s.referenceTime else 0#32 := by
  unfold State.slotHigh
  split <;> simp

theorem execEdge_transition {l : Level} (hcapture : s.bitCountdown ≠ 0#7) (hline : s.lineLevel = l.flip) :
    execEdge l s = .next (s.afterTransition l) := by
  cases l with
  | low =>
    have hhigh : s.slotHigh = s.highTimeAccumulator + s.elapsed := if_pos hline
    rw [execEdge_low_of_capture hcapture, State.afterTransition, hhigh]
    rfl
  | high =>
    have hlow : s.slotHigh = s.highTimeAccumulator := if_neg (by simp [hline, Level.flip])
    rw [execEdge_high, State.afterTransition, hlow]
    rfl

/-- Settles O29, transition by transition: each adds the stretch it closes to the accumulator. -/
theorem slotHighTimeIsTheLinesHighTime : Obligations.SlotHighTimeIsTheLinesHighTime := by
  intro s ts t hcapture
  induction ts generalizing s with
  | nil => exact ⟨s, rfl, rfl, slotHigh_eq _⟩
  | cons t0 ts ih =>
    let a : State := ({ s with now := t0 } : State).afterTransition s.lineLevel.flip
    have hedge : exec (.edge s.lineLevel.flip) { s with now := t0 } = .next a :=
      execEdge_transition (s := { s with now := t0 }) hcapture (by cases s.lineLevel <;> rfl)
    obtain ⟨u, hrun, hcount, hhigh⟩ := ih a hcapture
    refine ⟨u, ?_, hcount, ?_⟩
    · simp only [transitions, runTimed, hedge]
      exact hrun
    · rw [hhigh, highTime, ← add_assoc]
      exact congrArg (· + _) (slotHigh_eq _)

/-! An edge and a tick with one `now`. -/

theorem slotHigh_afterTransition (s : State) (l : Level) : (s.afterTransition l).slotHigh = s.slotHigh := by
  rw [slotHigh_eq]
  simp [State.afterTransition]

theorem observeTick_afterTransition (s : State) (l : Level) :
    (s.afterTransition l).observeTick = s.observeTick.setLineLevel l := by
  rw [observeTick_eq, observeTick_eq, slotHigh_afterTransition]
  rfl

theorem startTick_setLineLevel (s : State) (l : Level) : (s.setLineLevel l).startTick = s.startTick.setLineLevel l := by
  unfold State.startTick
  by_cases hwindow : inWindow s.params.windowClosed s.channel s.highTimeAccumulator = true
  · rw [if_pos hwindow]; exact if_pos hwindow
  · rw [if_neg hwindow]; exact if_neg hwindow

theorem slotTick_setLineLevel (s : State) (l : Level) : (s.setLineLevel l).slotTick = s.slotTick.setLineLevel l := by
  have hclose : (s.setLineLevel l).closeSlot = s.closeSlot.setLineLevel l := rfl
  simp only [State.slotTick, hclose, setLineLevel_bitCountdown]
  split <;> rfl

/-- A tick after a transition of its own microsecond does what it does before it, but for the level. -/
theorem execTick_afterTransition (l : Level) (hcapture : s.bitCountdown ≠ 0#7) (h : execTick s = .next t) :
    execTick (s.afterTransition l) = .next (t.setLineLevel l) := by
  have hcapture' : (s.afterTransition l).bitCountdown ≠ 0#7 := hcapture
  have hbits : (s.afterTransition l).expectedBits = s.expectedBits := rfl
  simp only [execTick, if_neg hcapture, if_neg hcapture', observeTick_afterTransition, setLineLevel_bitCountdown, hbits] at h ⊢
  split_ifs at h ⊢ <;> cases h
  · rw [startTick_setLineLevel]
  · rw [slotTick_setLineLevel]

/-- Every tick in a capture but an aborting one leaves `referenceTime` at its own time. -/
theorem execTick_stamps (hcapture : s.bitCountdown ≠ 0#7)
    (hwindow : s.bitCountdown = armCount s.expectedBits → StartWindow s.params.windowClosed s.channel s.slotHigh.toNat)
    (h : execTick s = .next t) : t.referenceTime = t.now := by
  obtain ⟨hidle, -⟩ | ⟨-, -, -, rfl⟩ | ⟨-, hfirst, houtside, -⟩ | ⟨-, -, -, rfl⟩ | ⟨-, -, rfl⟩ := execTick_cases h
  · exact absurd hidle hcapture
  · simp
  · have harmed : s.bitCountdown = armCount s.expectedBits :=
      BitVec.eq_of_toNat_eq (hfirst.trans (armCount_toNat _).symm)
    have hinside := (inWindow_iff_startWindow _ _ _).mpr (hwindow harmed)
    rw [observeTick_accumulator, hinside] at houtside
    cases houtside
  · simp
  · simp

/-- An edge at `referenceTime` itself finds nothing elapsed: it neither adds high time nor arms. -/
theorem execEdge_of_stamped (l : Level) (hstamp : s.referenceTime = s.now) : execEdge l s = .next (s.setLineLevel l) := by
  have helapsed : s.elapsed = 0#32 := by simp [State.elapsed, hstamp]
  have hobserve : s.observeEdge l = s.setLineLevel l := by rw [State.observeEdge, ← hstamp]; rfl
  obtain ⟨t, h⟩ := exec_answers (.edge l) s
  obtain ⟨-, -, rfl⟩ | ⟨-, -, hpassed, -⟩ | ⟨-, rfl⟩ := execEdge_cases h
  · refine h.trans (congrArg Host.Outcome.next ?_)
    rw [hobserve, helapsed, State.addHighTime, BitVec.add_zero]
    rfl
  · rw [helapsed] at hpassed
    exact absurd hpassed BitVec.not_lt_zero
  · rw [← hobserve]; exact h

/-- Settles O28: in either order the tick closes the same high time, and the edge then sets the level alone. -/
theorem edgeAndTickCommuteUnlessAborting : Obligations.EdgeAndTickCommuteUnlessAborting := by
  intro l s hcapture hline hwindow
  obtain ⟨b, h⟩ := exec_answers .tick s
  have hstamp : b.referenceTime = b.now := execTick_stamps hcapture hwindow h
  exact ⟨s.afterTransition l, b, b.setLineLevel l, execEdge_transition hcapture hline,
    execTick_afterTransition l hcapture h, h, execEdge_of_stamped l hstamp⟩

/-! The credit after an abort. -/

/-- A falling edge while idle arms exactly past the silence. -/
theorem idle_falling_edge_arms_iff (hidle : s.bitCountdown = 0#7) (h : execEdge .low s = .next t) :
    t.bitCountdown ≠ 0#7 ↔ s.postRxSilenceMicros < s.elapsed := by
  obtain ⟨⟨-, -, hpassed⟩, rfl⟩ | ⟨hother, hcount, -⟩ := execEdge_arms_or_keeps h
  · exact iff_of_true (armCount_ne_zero _) hpassed
  · exact iff_of_false (fun hne => hne (hcount.trans hidle)) fun hpassed => hother ⟨hidle, rfl, hpassed⟩

/-- From a reference time rewound by the silence, any later time is past the silence, before the Clock has gone round (R160). -/
theorem silence_lt_elapsed_of_rewound {now silence t : Word} (hlater : 0 < (t - now).toNat)
    (hround : (t - now).toNat + silence.toNat < 2 ^ 32) : silence < t - (now - silence) := by
  have helapsed : t - (now - silence) = (t - now) + silence := by ring
  rw [helapsed, BitVec.lt_def, BitVec.toNat_add, Nat.mod_eq_of_lt hround]
  omega

/-- What an aborting tick leaves for the next edges (R176). -/
theorem execTick_aborts (harmed : s.bitCountdown = armCount s.expectedBits)
    (houtside : ¬ StartWindow s.params.windowClosed s.channel s.slotHigh.toNat) :
    ∃ u, execTick s = .next u ∧ u.bitCountdown = 0#7 ∧ u.referenceTime = s.now - s.postRxSilenceMicros ∧
      u.postRxSilenceMicros = s.postRxSilenceMicros ∧ u.expectedBits = s.expectedBits :=
  ⟨_, firstTickOutsideWindowAborts s harmed houtside, rfl, rfl, rfl, rfl⟩

/-- Settles O18: the abort rewinds `referenceTime` by the silence; a rising edge stamps it again. -/
theorem abortCreditLastsOneEdge : Obligations.AbortCreditLastsOneEdge := by
  intro s harmed houtside
  obtain ⟨u, hu, hidle, href, hsilence, hbits⟩ := execTick_aborts harmed houtside
  refine ⟨u, hu, fun t hlater hround => ?_, fun t t' => ?_⟩
  · have hpassed : u.postRxSilenceMicros < t - u.referenceTime := by
      rw [hsilence, href]
      exact silence_lt_elapsed_of_rewound hlater hround
    exact ⟨_, execEdge_low_of_silence_passed (s := { u with now := t }) hidle hpassed, congrArg armCount hbits⟩
  · let v : State := ({ u with now := t } : State).observeEdge .high
    obtain ⟨w, hw⟩ := exec_answers (.edge .low) { v with now := t' }
    refine ⟨v, w, execEdge_high _, hw, ?_⟩
    rw [← hsilence]
    exact idle_falling_edge_arms_iff (s := { v with now := t' }) hidle hw

end Sys2Proof.Machine
end

section
/-! PROOFS. The Packet Decoder's answer to a sample (R94, R203), and a second query (R67). -/

namespace Sys2Proof.Machine

variable {s t : State}

/-- A sample that holds the pairs of `v` decodes to `v` (R203). -/
theorem decodePairs_of_pairs {ws : Config.RawWords} {n v : Nat} (hv : v < 2 ^ n)
    (hpairs : ∀ j, j < n → rawBit ws (2 * j + 1) = v.testBit j ∧ rawBit ws (2 * j) = !v.testBit j) :
    decodePairs ws n 0#32 = some (BitVec.ofNat 32 v) := by
  rw [decodePairs_eq_some v hpairs 0, Nat.zero_mul, Nat.zero_add, Nat.mod_eq_of_lt hv]

/-- Settles O33: the pairing loop returns `v`. -/
theorem validSampleDecodesToItsInteger : Obligations.ValidSampleDecodesToItsInteger := by
  intro s v hflag _ hv hpairs
  rw [exec_checkData_eq, checkDataAnswer_of_decoded hflag (decodePairs_of_pairs hv hpairs)]

/-- Settles O37: the pairing loop reads the agreeing positions only. -/
theorem unusedPositionsDoNotMatter : Obligations.UnusedPositionsDoNotMatter := by
  intro s ws hagree
  have hpairs := decodePairs_congr hagree 0#32
  have hanswer : ({ s with rawWords := ws } : State).checkDataAnswer = s.checkDataAnswer := by
    simp only [State.checkDataAnswer, hpairs]
  exact ⟨_, _, exec_checkData_eq s, exec_checkData_eq _, congrArg some hanswer, rfl⟩

/-- Without a publication a clear flag stays clear (R27). -/
theorem exec_keeps_flag_clear {i : Instr} (hflag : s.packetReadyFlag = false) (hp : ¬ (i = .tick ∧ s.publishesAtTick))
    (h : exec i s = .next t) : t.packetReadyFlag = false := by
  have hrule := (readyFlagChangesByItsRule i s t h).1
  cases i with
  | reset | checkData => exact hrule
  | tick => exact hrule.trans ((if_neg fun hpub => hp ⟨rfl, hpub⟩).trans hflag)
  | edge | lastPacketStartTime | switchChannel | setExpectedBits | suppressPostRxSilence => exact hrule.trans hflag

theorem runTimed_cons {ops : List (Word × Instr)} {t0 : Word} {i : Instr} (h : exec i { s with now := t0 } = .next t) :
    runTimed ((t0, i) :: ops) s = runTimed ops t := by
  simp only [runTimed, h]

theorem runTimed_keeps_flag_clear {ops : List (Word × Instr)} (hflag : s.packetReadyFlag = false)
    (hp : noPublication ops s) : ∃ u, runTimed ops s = .next u ∧ u.packetReadyFlag = false := by
  induction ops generalizing s with
  | nil => exact ⟨s, rfl, hflag⟩
  | cons op ops ih =>
    obtain ⟨t0, i⟩ := op
    obtain ⟨a, ha⟩ := exec_answers i { s with now := t0 }
    obtain ⟨hp0, hrest⟩ := hp
    obtain ⟨u, hu, hclear⟩ := ih (exec_keeps_flag_clear (s := { s with now := t0 }) hflag hp0 ha) (hrest a ha)
    exact ⟨u, (runTimed_cons ha).trans hu, hclear⟩

/-- Settles O36: the first query clears the flag, and nothing sets it again. -/
theorem secondCheckDataFindsNoData : Obligations.SecondCheckDataFindsNoData := by
  intro s t ops h hp
  cases (exec_checkData_eq s).symm.trans h
  obtain ⟨u, hu, hclear⟩ := runTimed_keeps_flag_clear rfl hp
  exact ⟨u, hu, checkDataWithoutSample u hclear⟩

end Sys2Proof.Machine
end

section
/-! PROOFS. Runs of a capture: every operation but `RESET` keeps its length, and the ticks count it down to publication (R170,
R181, R185). -/

namespace Sys2Proof.Machine

variable {s t u : State} {ops : List (Word × Instr)}

/-- The registers that fix the length of a frame agree. -/
def State.SameLength (s t : State) : Prop :=
  t.expectedBits = s.expectedBits ∧ t.packetLengthMicros = s.packetLengthMicros

theorem State.SameLength.trans (hst : s.SameLength t) (htu : t.SameLength u) : s.SameLength u :=
  ⟨htu.1.trans hst.1, htu.2.trans hst.2⟩

theorem State.SameConfiguration.sameLength (h : s.SameConfiguration t) : s.SameLength t :=
  ⟨h.1, h.2.1⟩

/-- In a capture `SET_EXPECTED_BITS` is refused, and no other operation but `RESET` writes the length (R133, R134). -/
theorem exec_in_capture_sameLength {i : Instr} (hcapture : s.bitCountdown ≠ 0#7) (hr : i ≠ .reset)
    (h : exec i s = .next t) : s.SameLength t := by
  cases i with
  | reset => exact absurd rfl hr
  | edge l => exact (execEdge_frame h).1.sameLength
  | tick => exact (execTick_frame h).2.1.sameLength
  | checkData => cases (execCheckData_eq s).symm.trans h; exact ⟨rfl, rfl⟩
  | lastPacketStartTime => cases h; exact ⟨rfl, rfl⟩
  | switchChannel c => obtain ⟨-, rfl⟩ | ⟨-, -, rfl⟩ := execSwitchChannel_cases h <;> exact ⟨rfl, rfl⟩
  | setExpectedBits n =>
    obtain ⟨-, rfl⟩ | ⟨-, -, -, rfl⟩ | ⟨-, -, hidle, -⟩ := execSetExpectedBits_cases h
    · exact ⟨rfl, rfl⟩
    · exact ⟨rfl, rfl⟩
    · exact absurd hidle hcapture
  | suppressPostRxSilence => cases h; exact ⟨rfl, rfl⟩

/-- In a capture the countdown moves with `RESET` and `TICK` only (R26). -/
theorem exec_in_capture_countdown {i : Instr} (hcapture : s.bitCountdown ≠ 0#7) (hr : i ≠ .reset) (ht : i ≠ .tick)
    (h : exec i s = .next t) : t.bitCountdown = s.bitCountdown := by
  have htable := countdownChangesByTheTable i s t h
  cases i with
  | reset => exact absurd rfl hr
  | tick => exact absurd rfl ht
  | edge l => exact BitVec.eq_of_toNat_eq (htable.trans (if_neg fun harm => hcapture harm.1))
  | checkData | lastPacketStartTime | switchChannel | setExpectedBits | suppressPostRxSilence =>
    exact BitVec.eq_of_toNat_eq htable

theorem runTimed_in_capture (hcapture : s.bitCountdown ≠ 0#7) (hr : noReset ops) (ht : noTick ops)
    (h : runTimed ops s = .next t) : t.bitCountdown = s.bitCountdown ∧ s.SameLength t := by
  induction ops generalizing s with
  | nil => cases h; exact ⟨rfl, rfl, rfl⟩
  | cons op ops ih =>
    obtain ⟨t0, i⟩ := op
    obtain ⟨hr0, hrest⟩ := List.forall_mem_cons.mp hr
    obtain ⟨ht0, htrest⟩ := List.forall_mem_cons.mp ht
    obtain ⟨a, ha⟩ := exec_answers i { s with now := t0 }
    have hcount : a.bitCountdown = s.bitCountdown := exec_in_capture_countdown (s := { s with now := t0 }) hcapture hr0 ht0 ha
    have hlength : s.SameLength a := exec_in_capture_sameLength (s := { s with now := t0 }) hcapture hr0 ha
    obtain ⟨hcount', hlength'⟩ := ih (hcount ▸ hcapture) hrest htrest ((runTimed_cons ha).symm.trans h)
    exact ⟨hcount'.trans hcount, hlength.trans hlength'⟩

/-- Past the first tick, every tick counts down by one and no other operation but `RESET` moves the countdown. -/
theorem exec_in_sampling_countdown {i : Instr} (hpos : 0 < s.bitCountdown.toNat)
    (hle : s.bitCountdown.toNat ≤ 2 * s.expectedBits.toNat) (hr : i ≠ .reset) (h : exec i s = .next t) :
    t.bitCountdown.toNat = s.bitCountdown.toNat - if i = .tick then 1 else 0 := by
  by_cases ht : i = .tick
  · subst ht
    rw [execTick_countdown h, if_neg (by omega), if_pos rfl]
  · rw [exec_in_capture_countdown (ne_zero_of_countdown_pos hpos) hr ht h, if_neg ht, Nat.sub_zero]

theorem tickCount_cons (t0 : Word) (i : Instr) (ops : List (Word × Instr)) :
    tickCount ((t0, i) :: ops) = tickCount ops + if i = .tick then 1 else 0 := by
  simp [tickCount, List.countP_cons]

/-- A capture past its first tick comes to its last tick, of the length it had. -/
theorem runTimed_to_last_tick (hpos : 0 < s.bitCountdown.toNat) (hle : s.bitCountdown.toNat ≤ 2 * s.expectedBits.toNat)
    (hr : noReset ops) (hticks : tickCount ops + 1 = s.bitCountdown.toNat) :
    ∃ u, runTimed ops s = .next u ∧ u.bitCountdown = 1#7 ∧ s.SameLength u := by
  induction ops generalizing s with
  | nil => exact ⟨s, rfl, BitVec.eq_of_toNat_eq hticks.symm, rfl, rfl⟩
  | cons op ops ih =>
    obtain ⟨t0, i⟩ := op
    obtain ⟨hr0, hrest⟩ := List.forall_mem_cons.mp hr
    obtain ⟨a, ha⟩ := exec_answers i { s with now := t0 }
    have hcount := exec_in_sampling_countdown (s := { s with now := t0 }) hpos hle hr0 ha
    have hlength : s.SameLength a :=
      exec_in_capture_sameLength (s := { s with now := t0 }) (ne_zero_of_countdown_pos hpos) hr0 ha
    rw [tickCount_cons] at hticks
    dsimp only at hcount
    obtain ⟨u, hu, hlast, hlength'⟩ := ih (s := a) (by omega) (by rw [hlength.1]; omega) hrest (by omega)
    exact ⟨u, (runTimed_cons ha).trans hu, hlast, hlength.trans hlength'⟩

theorem phase_of_countdown_zero (hidle : s.bitCountdown = 0#7) : s.phase = .idle := if_pos hidle

/-- Settles O30: the run to the last tick, and what that one publishes. -/
theorem captureRunsToPublication : Obligations.CaptureRunsToPublication := by
  intro s ops t hpos hle hr hticks
  obtain ⟨u, hu, hlast, hbits, hlength⟩ := runTimed_to_last_tick hpos hle hr hticks
  have hne : u.expectedBits ≠ 0#6 := by
    rw [hbits]
    rintro hzero
    simp [hzero] at hle
    omega
  obtain ⟨v, hv, hidle, hflag, hstart, -⟩ := lastTickPublishes { u with now := t } hlast hne
  exact ⟨u, v, hu, hlast, hv, phase_of_countdown_zero hidle, hflag, hstart.trans (by rw [← hlength])⟩

theorem packetLengthMicros_eq (hs : s.RegInv) :
    s.packetLengthMicros = BitVec.ofNat 32 (800 * s.expectedBits.toNat) + 1#32 := by
  have hbits := hs.bits_le
  refine BitVec.eq_of_toNat_eq (hs.length_eq.trans ?_)
  rw [← BitVec.ofNat_add, BitVec.toNat_ofNat]
  omega

/-- The start time of a capture whose ticks come on schedule (R181). -/
theorem start_of_exact_ticks (t0 d : Word) : t0 + 800#32 + d - (d + 1#32) = t0 + 799#32 := by
  have h800 : (800#32 : Word) = 799#32 + 1#32 := rfl
  rw [h800]
  ring

/-- A falling edge at `t0` after the silence, and the capture it arms (R154). -/
theorem execEdge_arms_at {t0 : Word} (hidle : s.bitCountdown = 0#7)
    (hpassed : s.postRxSilenceMicros.toNat < (t0 - s.referenceTime).toNat) :
    ∃ a, exec (.edge .low) { s with now := t0 } = .next a ∧ a.bitCountdown = armCount s.expectedBits ∧ s.SameLength a ∧
      a.highTimeAccumulator = s.highTimeAccumulator ∧ a.lineLevel = .low ∧ a.params = s.params ∧ a.channel = s.channel := by
  refine ⟨_, execEdge_low_of_silence_passed (s := { s with now := t0 }) hidle hpassed, ?_⟩
  simp [State.SameLength]

/-- The first tick at `t1` inside the window, and where it leaves the capture (R175). -/
theorem execTick_accepts_at {t1 : Word} (harmed : s.bitCountdown = armCount s.expectedBits)
    (hwindow : StartWindow s.params.windowClosed s.channel ({ s with now := t1 } : State).slotHigh.toNat) :
    ∃ c, exec .tick { s with now := t1 } = .next c ∧ c.bitCountdown.toNat = 2 * s.expectedBits.toNat ∧ s.SameLength c ∧
      c.highTimeAccumulator = 0#32 ∧ c.referenceTime = t1 ∧ c.lineLevel = s.lineLevel :=
  ⟨_, firstTickInWindowGoesOn { s with now := t1 } harmed hwindow, slotCount_toNat _, ⟨rfl, rfl⟩, rfl, rfl, rfl⟩

/-- Settles O31: the arming edge, the run to the first tick, that tick inside the window, and the run to publication. -/
theorem exactTicksPublishArmingPlus799 : Obligations.ExactTicksPublishArmingPlus799 := by
  intro s b t0 before after hs hidle hpassed hr ht hr' hticks hb hwindow
  obtain ⟨a, harm, hcount_a, hlength_a, -⟩ := execEdge_arms_at hidle hpassed
  obtain ⟨hcount_b, hlength_b⟩ :=
    runTimed_in_capture (hcount_a ▸ armCount_ne_zero _) hr ht ((runTimed_cons harm).symm.trans hb)
  have harmed : b.bitCountdown = armCount b.expectedBits := by rw [hcount_b, hcount_a, hlength_b.1, hlength_a.1]
  obtain ⟨c, hc, hcount_c, hlength_c, -⟩ := execTick_accepts_at harmed hwindow
  obtain ⟨hbits, hlen⟩ : s.SameLength c := (hlength_a.trans hlength_b).trans hlength_c
  have hbits_pos := hs.bits_pos
  rw [← hlength_c.1, hbits] at hcount_c
  obtain ⟨u, v, hu, -, hv, hphase, hflag, hstart⟩ :=
    captureRunsToPublication c after (t0 + 800#32 + BitVec.ofNat 32 (800 * s.expectedBits.toNat)) (by omega)
      (by rw [hbits]; omega) hr' (by omega)
  refine ⟨v, ?_, hphase, hflag, ?_⟩
  · rw [List.append_assoc, runTimed_append hb, List.cons_append, runTimed_cons hc, runTimed_append hu, runTimed_cons hv]
    rfl
  · rw [hstart, hlen, packetLengthMicros_eq hs, start_of_exact_ticks]

end Sys2Proof.Machine
end

section
/-! PROOFS. The round trip of a frame (R86 to R91, R207): slot by slot the half-slot levels go to the raw positions, and
`CHECK_DATA` reads the payload back from them. -/

namespace Sys2Proof.Machine

variable {s t u b : State}

/-! The sample of a list of half-slots. -/

/-- Raw position `p` of the sample of half-slots of the given levels: the last one is at position 0 (R92). -/
def sampledBit : List Level → Nat → Bool
  | [], _ => false
  | l :: ls, p => if p = ls.length then decide (l = .high) else sampledBit ls p

theorem sampledBit_cons (l : Level) (ls : List Level) (p : Nat) :
    sampledBit (l :: ls) p = if p = ls.length then decide (l = .high) else sampledBit ls p := rfl

theorem payloadLevels_length (n v : Nat) : (payloadLevels n v).length = 2 * n := by
  induction n with
  | zero => rfl
  | succ n ih => cases hbit : v.testBit n <;> simp [payloadLevels, bitLevels, hbit, ih] <;> omega

/-- The two half-slots of bit `n` go to its pair (R90, R93). -/
theorem sampledBit_payload_succ (n v p : Nat) :
    sampledBit (payloadLevels (n + 1) v) p =
      if p = 2 * n + 1 then v.testBit n else if p = 2 * n then !v.testBit n else sampledBit (payloadLevels n v) p := by
  cases hbit : v.testBit n <;> simp [payloadLevels, bitLevels, sampledBit, payloadLevels_length, hbit]

/-- The sample of a payload holds the pairs of its bits (R90, R91). -/
theorem sampledBit_payload {n j : Nat} (v : Nat) (hj : j < n) :
    sampledBit (payloadLevels n v) (2 * j + 1) = v.testBit j ∧ sampledBit (payloadLevels n v) (2 * j) = !v.testBit j := by
  induction n with
  | zero => omega
  | succ n ih =>
    rw [sampledBit_payload_succ, sampledBit_payload_succ]
    obtain rfl | hlt : j = n ∨ j < n := by omega
    · simp
    · rw [if_neg (by omega), if_neg (by omega), if_neg (by omega), if_neg (by omega)]
      exact ih hlt

/-! One slot. -/

/-- The boundary between two slots: the transition, if there is one, and the tick of the same microsecond (R88, R184). -/
theorem runTimed_boundary {t0 : Word} {l : Level} (hcapture : s.bitCountdown ≠ 0#7)
    (h : exec .tick { s with now := t0 } = .next b) (ops : List (Word × Instr)) :
    runTimed (transitionTo t0 s.lineLevel l ++ (t0, .tick) :: ops) s = runTimed ops (b.setLineLevel l) := by
  unfold transitionTo
  split
  · rename_i hsame
    have hline : b.lineLevel = s.lineLevel := (execTick_frame h).1
    have hb : b.setLineLevel l = b := by rw [← hsame, ← hline]; rfl
    rw [List.nil_append, runTimed_cons h, hb]
  · rename_i hother
    have hflip : s.lineLevel = l.flip := by
      revert hother
      cases s.lineLevel <;> cases l <;> simp [Level.flip]
    have hedge : exec (.edge l) { s with now := t0 } = .next (({ s with now := t0 } : State).afterTransition l) :=
      execEdge_transition (s := { s with now := t0 }) hcapture hflip
    rw [List.singleton_append, runTimed_cons hedge]
    exact runTimed_cons (execTick_afterTransition (s := { s with now := t0 }) l hcapture h)

/-- `s` is in a slot that the line has been at `level` for since 400 µs before `stop`, with `k` slots of the capture to close. -/
structure State.InSlot (s : State) (stop : Word) (level : Level) (k : Nat) : Prop where
  line : s.lineLevel = level
  clear : s.highTimeAccumulator = 0#32
  since : s.referenceTime + 400#32 = stop
  count : s.bitCountdown.toNat = k
  later : k ≤ 2 * s.expectedBits.toNat
  bits_le : s.expectedBits.toNat ≤ 32

/-- A slot is classified by its level: 400 µs of high time or none (R177). -/
theorem State.InSlot.classify_slotHigh {stop : Word} {l : Level} {k : Nat} (hs : s.InSlot stop l k) :
    classify ({ s with now := stop } : State).slotHigh = decide (l = .high) := by
  have hlong : stop - s.referenceTime = 400#32 := by rw [← hs.since]; ring
  rw [slotHigh_eq]
  dsimp only
  rw [hs.line, hs.clear, hlong]
  cases l <;> rfl

/-- The tick at the end of a slot writes the slot's level to its raw position; the last one publishes (R178, R180). -/
theorem State.InSlot.closes {stop : Word} {cur : Level} {k : Nat} (hs : s.InSlot stop cur (k + 1)) (l : Level) :
    ∃ b, exec .tick { s with now := stop } = .next b ∧ (b.setLineLevel l).InSlot (stop + 400#32) l k ∧
      s.SameLength b ∧ (∀ p, b.raw p = if p = k then decide (cur = .high) else s.raw p) ∧
      (k = 0 → b.packetReadyFlag = true ∧ b.packetStartTime = stop - s.packetLengthMicros) := by
  have hcount := hs.count
  have hle := hs.later
  have hbits_le := hs.bits_le
  have hcapture : s.bitCountdown ≠ 0#7 := ne_zero_of_countdown_pos (by omega)
  have hlater : s.bitCountdown.toNat ≠ 2 * s.expectedBits.toNat + 1 := by omega
  obtain ⟨b, hb⟩ := exec_answers .tick { s with now := stop }
  obtain ⟨hcount_b, href, hacc, -⟩ := execTick_closes_slot (s := { s with now := stop }) hcapture hlater hb
  have hlength : s.SameLength b := exec_in_capture_sameLength (s := { s with now := stop }) hcapture (by simp) hb
  refine ⟨b, hb, ⟨rfl, hacc, congrArg (· + 400#32) href, ?_, ?_, ?_⟩, hlength, fun p => ?_, ?_⟩
  · simp [hcount_b, countdown_pred_toNat hcapture, hcount]
  · simp only [setLineLevel_expectedBits, hlength.1]; omega
  · simp only [setLineLevel_expectedBits, hlength.1]; omega
  · rw [execTick_raw (s := { s with now := stop }) hcapture hlater (by dsimp only; omega) hb, hs.classify_slotHigh]
    simp only [hcount, Nat.add_sub_cancel]
    rfl
  · rintro rfl
    have hlast : s.bitCountdown = 1#7 := BitVec.eq_of_toNat_eq hcount
    cases (execTick_of_last (s := { s with now := stop }) hlast hlater).symm.trans hb
    simp

/-! All slots. -/

/-- Each half-slot lasts 400 µs (R88). -/
theorem slots_duration_cons (l : Level) (ls : List Level) :
    BitVec.ofNat 32 (400 * (l :: ls).length) = 400#32 + BitVec.ofNat 32 (400 * ls.length) := by
  rw [← BitVec.ofNat_add, List.length_cons, Nat.mul_succ, Nat.add_comm]

/-- The slots of a capture, from one that is under way: each level goes to its raw position, and the last tick publishes. -/
theorem State.InSlot.runs {ls : List Level} {stop : Word} {cur : Level} (hs : s.InSlot stop cur (ls.length + 1)) :
    ∃ u, runTimed (slotOps stop cur ls) s = .next u ∧ u.bitCountdown = 0#7 ∧ u.packetReadyFlag = true ∧
      u.packetStartTime = stop + BitVec.ofNat 32 (400 * ls.length) - s.packetLengthMicros ∧
      u.expectedBits = s.expectedBits ∧
      ∀ p, u.raw p = if p ≤ ls.length then sampledBit (cur :: ls) p else s.raw p := by
  have hcapture : s.bitCountdown ≠ 0#7 := ne_zero_of_countdown_pos (by rw [hs.count]; omega)
  induction ls generalizing s stop cur with
  | nil =>
    obtain ⟨b, hb, hslot, hlength, hraw, hpublished⟩ := hs.closes .high
    obtain ⟨hflag, hstart⟩ := hpublished rfl
    refine ⟨b.setLineLevel .high, ?_, BitVec.eq_of_toNat_eq hslot.count, hflag, ?_, hlength.1, fun p => ?_⟩
    · rw [slotOps, ← hs.line, runTimed_boundary hcapture hb]; rfl
    · simp [hstart]
    · refine (hraw p).trans ?_
      by_cases hp : p = 0 <;> simp [sampledBit, hp]
  | cons l ls ih =>
    obtain ⟨b, hb, hslot, hlength, hraw, -⟩ := hs.closes l
    have hcapture' : (b.setLineLevel l).bitCountdown ≠ 0#7 :=
      ne_zero_of_countdown_pos (by rw [hslot.count, List.length_cons]; omega)
    obtain ⟨u, hu, hidle, hflag, hstart, hbits, hraw_u⟩ := ih hslot hcapture'
    refine ⟨u, ?_, hidle, hflag, ?_, hbits.trans hlength.1, fun p => ?_⟩
    · rw [slotOps, ← hs.line, runTimed_boundary hcapture hb]
      exact hu
    · rw [hstart, slots_duration_cons, setLineLevel_packetLengthMicros, hlength.2, add_assoc]
    · rw [hraw_u, raw_congr (setLineLevel_rawWords b l), hraw, List.length_cons]
      rw [sampledBit_cons cur (l :: ls), List.length_cons]
      obtain hlt | rfl | hgt := lt_trichotomy p (ls.length + 1)
      · rw [if_pos (by omega), if_pos (by omega), if_neg (by omega)]
      · rw [if_neg (by omega), if_pos rfl, if_pos le_rfl, if_pos rfl]
      · rw [if_neg (by omega), if_neg (by omega), if_neg (by omega)]

/-! The frame. -/

theorem StartWindow.le {closed : Bool} {c : BitVec 2} {h : Nat} (hwindow : StartWindow closed c h) : h ≤ 625 := by
  cases closed <;> simp [StartWindow] at hwindow <;> omega

/-- The two edges of the start slot arm a capture and leave the line high, at `t1` for `h` (R86, R174). -/
theorem runTimed_start_slot {t0 t1 : Word} {h : Nat} (hs : s.RegInv) (hidle : s.bitCountdown = 0#7)
    (hpassed : s.postRxSilenceMicros.toNat < (t0 - s.referenceTime).toNat)
    (hwindow : StartWindow s.params.windowClosed s.channel h) :
    ∃ a, (∀ ops, runTimed ((t0, .edge .low) :: (t1 - BitVec.ofNat 32 h, .edge .high) :: ops) s = runTimed ops a) ∧
      a.bitCountdown = armCount a.expectedBits ∧ s.SameLength a ∧ a.lineLevel = .high ∧
      StartWindow a.params.windowClosed a.channel ({ a with now := t1 } : State).slotHigh.toNat := by
  obtain ⟨b, harm, hcount, hlength, hacc, -, hparams, hchannel⟩ := execEdge_arms_at hidle hpassed
  let a : State := ({ b with now := t1 - BitVec.ofNat 32 h } : State).observeEdge .high
  have hrise : exec (.edge .high) { b with now := t1 - BitVec.ofNat 32 h } = .next a := execEdge_high _
  have hpulse : ({ a with now := t1 } : State).slotHigh = BitVec.ofNat 32 h := by
    calc ({ a with now := t1 } : State).slotHigh
      _ = b.highTimeAccumulator + (t1 - (t1 - BitVec.ofNat 32 h)) := if_pos rfl
      _ = BitVec.ofNat 32 h := by rw [hacc, hs.idle_clear hidle, sub_sub_cancel, BitVec.zero_add]
  refine ⟨a, fun ops => ?_, hcount.trans (congrArg armCount hlength.1.symm), hlength, rfl, ?_⟩
  · rw [runTimed_cons harm, runTimed_cons hrise]
  · have hle := hwindow.le
    rw [hpulse, BitVec.toNat_ofNat, Nat.mod_eq_of_lt (by omega)]
    change StartWindow b.params.windowClosed b.channel h
    rw [hparams, hchannel]
    exact hwindow

/-- The slots of a non-empty payload, from the first tick of a capture on. -/
theorem runTimed_payload {t1 : Word} {l : Level} {ls : List Level} (harmed : s.bitCountdown = armCount s.expectedBits)
    (hwindow : StartWindow s.params.windowClosed s.channel ({ s with now := t1 } : State).slotHigh.toNat)
    (hbits : s.expectedBits.toNat ≤ 32) (hall : (l :: ls).length = 2 * s.expectedBits.toNat) :
    ∃ u, runTimed (slotOps t1 s.lineLevel (l :: ls)) s = .next u ∧ u.bitCountdown = 0#7 ∧ u.packetReadyFlag = true ∧
      u.packetStartTime = t1 + BitVec.ofNat 32 (400 * (l :: ls).length) - s.packetLengthMicros ∧
      u.expectedBits = s.expectedBits ∧ ∀ p, p < (l :: ls).length → u.raw p = sampledBit (l :: ls) p := by
  obtain ⟨c, hc, hcount, hlength, hacc, href, -⟩ := execTick_accepts_at harmed hwindow
  rw [List.length_cons] at hall
  have hslot : (c.setLineLevel l).InSlot (t1 + 400#32) l (ls.length + 1) :=
    ⟨rfl, hacc, congrArg (· + 400#32) href, hcount.trans hall.symm, by rw [setLineLevel_expectedBits, hlength.1, hall],
      by rw [setLineLevel_expectedBits, hlength.1]; exact hbits⟩
  obtain ⟨u, hu, hidle, hflag, hstart, hbits_u, hraw⟩ := hslot.runs
  refine ⟨u, ?_, hidle, hflag, ?_, hbits_u.trans hlength.1, fun p hp => ?_⟩
  · rw [slotOps, runTimed_boundary (harmed ▸ armCount_ne_zero _) hc]
    exact hu
  · rw [hstart, slots_duration_cons, setLineLevel_packetLengthMicros, hlength.2, add_assoc]
  · exact (hraw p).trans (if_pos (Nat.lt_succ_iff.mp hp))

/-- Settles O58: the start slot, the payload's slots, and the sample that `CHECK_DATA` finds. -/
theorem frameRoundTrip : Obligations.FrameRoundTrip := by
  intro s t0 h v hs hidle hpassed hwindow hv
  obtain ⟨a, hstartSlot, harmed, ⟨hbits_a, hlen_a⟩, hline, hwindow_a⟩ := runTimed_start_slot hs hidle hpassed hwindow
  have hlength := payloadLevels_length s.expectedBits.toNat v
  have hpairs := fun j => sampledBit_payload (n := s.expectedBits.toNat) (j := j) v
  obtain ⟨l, ls, hpayload⟩ : ∃ l ls, payloadLevels s.expectedBits.toNat v = l :: ls := by
    refine List.exists_cons_of_length_pos ?_
    have := hs.bits_pos
    omega
  rw [hpayload] at hlength
  simp only [hpayload] at hpairs
  obtain ⟨u, hu, hidle_u, hflag, hstart, hbits_u, hraw⟩ :=
    runTimed_payload harmed hwindow_a (by rw [hbits_a]; exact hs.bits_le) (hlength.trans (by rw [hbits_a]))
  rw [hline] at hu
  rw [hbits_a] at hbits_u
  refine ⟨u, _, ?_, phase_of_countdown_zero hidle_u, hflag, ?_,
    validSampleDecodesToItsInteger u v hflag (by rw [hbits_u]; exact hs.bits_le) (by rw [hbits_u]; exact hv)
      fun j hj => ?_, rfl⟩
  · rw [frameOps, hpayload, hstartSlot, hu]
  · rw [hstart, hlen_a, hlength, packetLengthMicros_eq hs, ← Nat.mul_assoc, start_of_exact_ticks]
  · rw [hbits_u] at hj
    rw [hraw _ (by omega), hraw _ (by omega)]
    exact hpairs j hj

end Sys2Proof.Machine
end

section
/-! PROOFS. One cycle: the order of its events (R238), what the platform makes of it (R263 to R265), and its response (R104). -/

namespace Sys2Proof.Machine

variable {s t : State}

/-! The pins. -/

theorem bit_eq_zero_of_ne_one {v : BitVec 1} (hv : v ≠ 1#1) : v = 0#1 := by
  revert v
  decide

theorem samplePins_of_nextInput_pins {p : InPins} (h : s.nextInput = .pins p) : s.samplePins = p := by
  simp [State.samplePins, h]

theorem countedTickSource_of_nextInput_pins {p : InPins} (h : s.nextInput = .pins p) :
    s.countedTickSource = s.tickSource := by
  simp [State.countedTickSource, h]

theorem decode_tick_ofBool (b : Bool) : decode (.tick (BitVec.ofBool b)) = if b then .op .tick else .noEvent := by
  cases b <;> rfl

theorem decode_rst_ofBool (b : Bool) : decode (.rst (BitVec.ofBool b)) = if b then .op .reset else .noEvent := by
  cases b <;> rfl

/-- The reference Edge Source's pins select an `EDGE` at a transition (R265). -/
theorem decode_edgePins (prev l : Level) :
    decode (.edge (edgePins prev l)) = if l = prev then .noEvent else .op (.edge l) := by
  cases prev <;> cases l <;> rfl

/-- The edge pins carry an `EDGE` or nothing (R97). -/
theorem decode_edge_cases (v : BitVec 2) : decode (.edge v) = .noEvent ∨ ∃ l, decode (.edge v) = .op (.edge l) := by
  simp only [decode, decodeEdge]
  split
  · exact .inr ⟨_, rfl⟩
  · exact .inl rfl

/-- The tick pin carries a `TICK` or nothing (R98). -/
theorem decode_tick_cases (v : BitVec 1) : decode (.tick v) = .noEvent ∨ decode (.tick v) = .op .tick := by
  simp only [decode]
  split
  · exact .inr rfl
  · exact .inl rfl

/-- The command of a cycle is none, reserved, or a host command (R101, R103). -/
theorem command_cases (p : InPins) :
    p.command = .noEvent ∨ p.command = .reserved ∨ ∃ i, isHostCommand i = true ∧ p.command = .op i := by
  unfold InPins.command
  split
  · cases hword : decode (.cmd p.cmd) with
    | noEvent => exact .inl rfl
    | reserved => exact .inr (.inl rfl)
    | op i =>
      obtain ⟨-, hcase⟩ := decodeCmd_op hword
      refine .inr (.inr ⟨i, ?_, rfl⟩)
      obtain ⟨-, -, rfl⟩ | ⟨-, -, rfl⟩ | ⟨-, rfl⟩ | ⟨-, rfl⟩ | ⟨-, -, rfl⟩ := hcase <;> rfl
  · exact .inl rfl

/-! The events of a cycle. -/

/-- No event writes the environment (R36). -/
theorem handle_sameEnvironment {d : Decoded} (h : handle d s = .next t) : s.SameEnvironment t := by
  cases d with
  | op i => exact exec_sameEnvironment h
  | noEvent => cases h; exact ⟨rfl, rfl, rfl, rfl, rfl⟩
  | reserved => cases h; exact ⟨rfl, rfl, rfl, rfl, rfl⟩

theorem State.SameEnvironment.trans {u : State} (hst : s.SameEnvironment t) (htu : t.SameEnvironment u) :
    s.SameEnvironment u := by
  obtain ⟨hnow, hts, hprev, hparams, hinputs⟩ := hst
  obtain ⟨hnow', hts', hprev', hparams', hinputs'⟩ := htu
  exact ⟨hnow'.trans hnow, hts'.trans hts, hprev'.trans hprev, hparams'.trans hparams, hinputs'.trans hinputs⟩

theorem handleAll_sameEnvironment {ds : List Decoded} (h : handleAll ds s = .next t) : s.SameEnvironment t :=
  handleAll_keeps (P := s.SameEnvironment) (fun _ _ _ hsame hd => hsame.trans (handle_sameEnvironment hd))
    ⟨rfl, rfl, rfl, rfl, rfl⟩ h

/-- A cycle with `rst = 1` is `RESET` between its start and its end. -/
theorem step_of_reset (hr : s.samplePins.rst = 1#1) : step s = .next (s.beginCycle.resetRegisters.endCycle 1#1) := by
  have hall : handleAll (s.samplePins.events s.params.edgeBeforeTick) s.beginCycle = .next s.beginCycle.resetRegisters := by
    rw [events_reset hr]; rfl
  rw [step_of_handleAll hall, hr]

/-- A cycle of three events without reset handles them in a row (R238). -/
theorem step_of_three_events {d e f : Decoded} (hr : s.samplePins.rst = 0#1)
    (hevents : s.samplePins.events s.params.edgeBeforeTick = [d, e, f]) : ∃ a b c,
    handle d s.beginCycle = .next a ∧ handle e a = .next b ∧ handle f b = .next c ∧ step s = .next (c.endCycle 0#1) := by
  obtain ⟨a, ha⟩ := handle_answers d s.beginCycle
  obtain ⟨b, hb⟩ := handle_answers e a
  obtain ⟨c, hc⟩ := handle_answers f b
  have hall := handleAll_three ha hb hc
  rw [← hevents] at hall
  exact ⟨a, b, c, ha, hb, hc, by rw [step_of_handleAll hall, hr]⟩

/-- A cycle without reset, the `EDGE` first (R238). -/
theorem step_edge_first (horder : s.params.edgeBeforeTick = true) (hr : s.samplePins.rst = 0#1) : ∃ a b c,
    handle (decode (.edge s.samplePins.edge)) s.beginCycle = .next a ∧
    handle (decode (.tick s.samplePins.tick)) a = .next b ∧
    handle s.samplePins.command b = .next c ∧ step s = .next (c.endCycle 0#1) :=
  step_of_three_events hr (by rw [horder, events_edge_first (by simp [hr])])

/-- A cycle without reset, the `TICK` first (D15). -/
theorem step_tick_first (horder : s.params.edgeBeforeTick = false) (hr : s.samplePins.rst = 0#1) : ∃ a b c,
    handle (decode (.tick s.samplePins.tick)) s.beginCycle = .next a ∧
    handle (decode (.edge s.samplePins.edge)) a = .next b ∧
    handle s.samplePins.command b = .next c ∧ step s = .next (c.endCycle 0#1) :=
  step_of_three_events hr (by rw [horder, events_tick_first (by simp [hr])])

/-- Settles O6: `RESET` alone, else three events none of which writes the Clock. -/
theorem eventsOfOneCycleAreOrdered : Obligations.EventsOfOneCycleAreOrdered := by
  intro s horder
  refine ⟨fun hr => ⟨s.beginCycle.resetRegisters, rfl, step_of_reset hr, rfl⟩, fun hr => ?_⟩
  obtain ⟨a, b, c, ha, hb, hc, hstep⟩ := step_edge_first horder hr
  have hnow_a : a.now = s.samplePins.now := (handle_sameEnvironment ha).1
  have hnow_b : b.now = s.samplePins.now := (handle_sameEnvironment hb).1.trans hnow_a
  exact ⟨a, b, c, ha, hb, hc, hstep, rfl, hnow_a, hnow_b, (handle_sameEnvironment hc).1.trans hnow_b⟩

/-- Settles O7: the order under the other setting. -/
theorem tickFirstUnderTheOtherSetting : Obligations.TickFirstUnderTheOtherSetting :=
  fun _ => step_tick_first

/-- Settles O8: every event of the cycle is answered. -/
theorem everyCycleAnswersANextState : Obligations.EveryCycleAnswersANextState := by
  intro s
  obtain ⟨t, h⟩ := handleAll_answers (s.samplePins.events s.params.edgeBeforeTick) s.beginCycle
  exact ⟨_, step_of_handleAll h⟩

/-! A cycle with one event, and a cycle with none. -/

theorem decode_edge_quiet : decode (.edge 0#2) = .noEvent := by decide
theorem decode_tick_quiet : decode (.tick 0#1) = .noEvent := by decide

theorem events_only_edge (now : Word) (v : BitVec 2) (b : Bool) : (InPins.only now (.edge v)).events b =
    if b then [decode (.edge v), .noEvent, .noEvent] else [.noEvent, decode (.edge v), .noEvent] := by
  simp [InPins.events, InPins.only, InPins.quiet, InPins.command, rst_decodes, decode_tick_quiet]

theorem events_only_tick (now : Word) (v : BitVec 1) (b : Bool) : (InPins.only now (.tick v)).events b =
    if b then [.noEvent, decode (.tick v), .noEvent] else [decode (.tick v), .noEvent, .noEvent] := by
  simp [InPins.events, InPins.only, InPins.quiet, InPins.command, rst_decodes, decode_edge_quiet]

theorem events_only_cmd (now : Word) (w : Command) (b : Bool) :
    (InPins.only now (.cmd w)).events b = [.noEvent, .noEvent, decode (.cmd w)] := by
  simp [InPins.events, InPins.only, InPins.quiet, InPins.command, rst_decodes, decode_edge_quiet, decode_tick_quiet]

/-- With one operation on the pins, the cycle's events are that operation, in either order. -/
theorem handleAll_only {now : Word} {w : PinWord} {i : Instr} (hword : decode w = .op i) (h : exec i s = .next t)
    (b : Bool) : handleAll ((InPins.only now w).events b) s = .next t := by
  cases w with
  | rst v =>
    obtain ⟨rfl, rfl⟩ := op_of_bit hword
    rw [events_reset rfl]
    simp [handleAll, h]
  | edge v =>
    rw [events_only_edge, hword]
    cases b <;> simp [handleAll, h]
  | tick v =>
    rw [events_only_tick, hword]
    cases b <;> simp [handleAll, h]
  | cmd w =>
    rw [events_only_cmd, hword]
    simp [handleAll, h]

/-- The reset pin is driven by the word of `RESET` alone. -/
theorem rst_only_encode (now : Word) (i : Instr) :
    (InPins.only now (encode i)).rst = if i = .reset then 1#1 else 0#1 := by
  cases i <;> rfl

/-- The pins sampled in a cycle with one pin group driven have its `now`. -/
theorem now_only (now : Word) (w : PinWord) : (InPins.only now w).now = now := by
  cases w <;> rfl

/-- Settles O5: the one event is handled, and the word is the operation's own. -/
theorem stepRunsTheDecodedOperation : Obligations.StepRunsTheDecodedOperation := by
  intro s now w i hword hpins
  obtain ⟨t, ht⟩ := exec_answers i s.beginCycle
  have hall := handleAll_only (now := now) hword ht s.params.edgeBeforeTick
  obtain ⟨rfl, -⟩ := onlyTheEncodersWordSelects w i hword
  have hnow : s.beginCycle.now = now := by rw [beginCycle_now, hpins, now_only]
  rw [← hpins] at hall
  refine ⟨hnow, rfl, ⟨⟨rfl, rfl, rfl, rfl⟩, ⟨rfl, rfl, rfl, rfl⟩, ⟨rfl, rfl, rfl⟩⟩, t, ht, ?_⟩
  rw [step_of_handleAll hall, hpins, rst_only_encode]

theorem apply_none (ts : TickSource) : ts.apply TsActions.none = ts := rfl

/-- A cycle without an event is its start and its end. -/
theorem step_of_noEvent (hquiet : s.samplePins.CarryNoEvent) : step s = .next (s.beginCycle.endCycle 0#1) := by
  rw [step_of_handleAll (handleAll_of_noEvent hquiet _ _), hquiet.1]

/-- A cycle of the platform without a transition, a tick and a command carries no event. -/
theorem carryNoEvent_of_quiet_line (hline : s.nextInput = .line false s.irPrev none)
    (hticks : s.tickSource.ticks = false) : s.samplePins.CarryNoEvent := by
  rw [samplePins_of_line hline, hticks]
  exact ⟨rfl, (decode_edgePins _ _).trans (if_pos rfl), rfl, rfl⟩

/-- Settles O9: what the start and the end of a cycle write, on driven pins and on the platform. -/
theorem cycleWithoutEventChangesNoRegister : Obligations.CycleWithoutEventChangesNoRegister := by
  refine ⟨fun s hquiet => ?_, fun s => carryNoEvent_of_quiet_line, fun s hempty => by simp [State.nextInput, hempty]⟩
  refine ⟨_, step_of_noEvent hquiet, ⟨⟨rfl, rfl, rfl, rfl⟩, ⟨rfl, rfl, rfl, rfl⟩, ⟨rfl, rfl, rfl⟩⟩, rfl, rfl, rfl,
    fun p hp => ⟨?_, ?_⟩, fun rst l c hline => ⟨?_, ?_⟩⟩
  · exact congrArg InPins.now (samplePins_of_nextInput_pins hp)
  · exact countedTickSource_of_nextInput_pins hp
  · exact congrArg InPins.now (samplePins_of_line hline)
  · exact countedTickSource_of_line hline

/-! The environment after a cycle. -/

/-- The Clock, the platform and the inputs after a cycle: as its start leaves them, with the block's actions taken. -/
theorem step_environment (h : step s = .next t) :
    t.now = s.samplePins.now ∧ t.irPrev = s.nextIrPrev ∧ t.params = s.params ∧ t.inputs = s.inputs.tail ∧
      t.tickSource = if s.samplePins.rst = 1#1 then TickSource.atReset else s.countedTickSource.apply t.tsActions := by
  obtain ⟨u, hu⟩ := handleAll_answers (s.samplePins.events s.params.edgeBeforeTick) s.beginCycle
  cases (step_of_handleAll hu).symm.trans h
  obtain ⟨hnow, hts, hprev, hparams, hinputs⟩ := handleAll_sameEnvironment hu
  exact ⟨hnow, hprev, hparams, hinputs, by rw [endCycle_tickSource, hts, endCycle_tsActions]; rfl⟩

theorem ofBool_eq_one_iff (b : Bool) : BitVec.ofBool b = 1#1 ↔ b = true := by
  cases b <;> decide

/-- A reset cycle leaves `ir_prev` high (R265). -/
theorem nextIrPrev_of_reset (hr : s.samplePins.rst = 1#1) : s.nextIrPrev = .high := by
  cases hnext : s.nextInput with
  | pins p =>
    rw [samplePins_of_nextInput_pins hnext] at hr
    simp [State.nextIrPrev, hnext, hr]
  | line rst l c =>
    rw [samplePins_of_line hnext] at hr
    simp [State.nextIrPrev, hnext, (ofBool_eq_one_iff rst).mp hr]

/-- Settles O47: the writes of `RESET` between the start and the end of its cycle. -/
theorem resetCycleEndsInTheResetState : Obligations.ResetCycleEndsInTheResetState := by
  intro s hparams hr
  have hprev := nextIrPrev_of_reset hr
  calc step s
    _ = .next (s.beginCycle.resetRegisters.endCycle 1#1) := step_of_reset hr
    _ = _ := by simp only [State.endCycle, State.resetRegisters, State.beginCycle, hparams, hprev]; rfl

/-- Settles O56: the Edge Source's pins, and the platform's registers after the cycle. -/
theorem edgeSourceDeliversTransitions : Obligations.EdgeSourceDeliversTransitions := by
  intro s rst l c hline
  obtain ⟨t, h⟩ := everyCycleAnswersANextState s
  obtain ⟨hnow, hprev, -⟩ := step_environment h
  refine ⟨?_, t, h, hprev.trans ?_, hnow.trans ?_⟩
  · rw [samplePins_of_line hline]
    cases rst with
    | true => simp [decode_edge_quiet]
    | false => simpa using decode_edgePins s.irPrev l
  · simp [State.nextIrPrev, hline]
  · rw [samplePins_of_line hline]

/-- Settles O57: driven pins are the sampled ones; on the platform they are its own, and its Tick Source counts, then takes the
actions. -/
theorem platformCycleCountsAndTakesActions : Obligations.PlatformCycleCountsAndTakesActions := by
  refine ⟨fun s p => samplePins_of_nextInput_pins, fun s rst l c hline => ?_⟩
  obtain ⟨t, h⟩ := everyCycleAnswersANextState s
  obtain ⟨-, -, -, -, hts⟩ := step_environment h
  have hcount := countedTickSource_of_line hline
  rw [samplePins_of_line hline] at hts ⊢
  refine ⟨decode_rst_ofBool rst, decode_tick_ofBool _, ?_, hcount, t, h, ?_⟩
  · cases c <;> rfl
  · simpa only [hcount, ofBool_eq_one_iff] using hts

/-! The Tick Source. -/

theorem apply_counter (ts : TickSource) (a : TsActions) :
    (ts.apply a).counter = if a.resetCounter then 0#16 else ts.counter := by
  unfold TickSource.apply
  cases a.resetCounter <;> cases a.setInterval <;> cases a.enable <;> cases a.disable <;> rfl

theorem apply_interval (ts : TickSource) (a : TsActions) : (ts.apply a).interval = a.setInterval.getD ts.interval := by
  unfold TickSource.apply
  cases a.resetCounter <;> cases a.setInterval <;> cases a.enable <;> cases a.disable <;> rfl

/-- Settles O54, register by register. -/
theorem tickSourceTakesActionsInOrder : Obligations.TickSourceTakesActionsInOrder := by
  refine fun ts a => ⟨apply_counter ts a, apply_interval ts a, (apply_enabled ts a).trans ?_⟩
  cases a.disable <;> cases a.enable <;> rfl

/-- An enabled Tick Source with `k` counted ticks when the next count reaches the interval (R264). -/
theorem ticks_iff {v c : BitVec 16} (hlt : c.toNat < v.toNat) :
    (⟨true, v, c⟩ : TickSource).ticks = true ↔ c.toNat + 1 = v.toNat := by
  have hsucc : (c + 1#16).toNat = c.toNat + 1 := by
    rw [BitVec.toNat_add, BitVec.toNat_ofNat]
    omega
  simp only [TickSource.ticks, Bool.true_and, decide_eq_true_eq, BitVec.le_def, hsucc]
  omega

theorem count_of_not_ticks {v c : BitVec 16} (hlt : c.toNat + 1 < v.toNat) :
    (⟨true, v, c⟩ : TickSource).count = ⟨true, v, c + 1#16⟩ := by
  have hno : (⟨true, v, c⟩ : TickSource).ticks = false :=
    Bool.eq_false_iff.mpr fun hticks => by have := (ticks_iff (by omega)).mp hticks; omega
  simp [TickSource.count, hno]

theorem toNat_ofNat_of_lt_interval {v : BitVec 16} {k : Nat} (hk : k < v.toNat) : (BitVec.ofNat 16 k).toNat = k := by
  rw [BitVec.toNat_ofNat]
  omega

/-- Counting from 0, the count after `k` cycles is `k`, as long as the interval is not reached. -/
theorem count_iterate {v : BitVec 16} {k : Nat} (hk : k < v.toNat) :
    TickSource.count^[k] ⟨true, v, 0#16⟩ = ⟨true, v, BitVec.ofNat 16 k⟩ := by
  induction k with
  | zero => rfl
  | succ k ih =>
    have hlt : k < v.toNat := by omega
    rw [Function.iterate_succ_apply', ih hlt, count_of_not_ticks (by rwa [toNat_ofNat_of_lt_interval hlt]), BitVec.ofNat_add]

/-- Settles O53: the count after `k` cycles, and what the next cycle does with it. -/
theorem tickSourceTicksAfterItsInterval : Obligations.TickSourceTicksAfterItsInterval := by
  intro v k hk
  have hto := toNat_ofNat_of_lt_interval hk
  have hiff := ticks_iff (v := v) (c := BitVec.ofNat 16 k) (by rwa [hto])
  rw [hto] at hiff
  rw [count_iterate hk]
  exact ⟨hto, hiff, fun hlast => by simp [TickSource.count, hiff.mpr hlast]⟩

/-! The response of a cycle. -/

theorem hostCommand_gives_response {i : Instr} (hi : isHostCommand i = true) (h : exec i s = .next t) :
    ∃ r, t.response = some r ∧ (r.status ≠ .ok → r.data = 0#32) ∧ t.responsePins = (1#1, r.status.code, r.data) := by
  obtain ⟨c, flag, r, hdata, rfl⟩ := hostCommand_answers hi h
  exact ⟨r, rfl, hdata, rfl⟩

theorem event_gives_no_response {i : Instr} (hi : isHostCommand i = false) (h : exec i s = .next t) :
    t.response = s.response := by
  cases i with
  | reset => cases h; rfl
  | edge l => exact (execEdge_frame h).2.2
  | tick => exact (execTick_frame h).2.2.2
  | checkData | lastPacketStartTime | switchChannel | setExpectedBits | suppressPostRxSilence => cases hi

theorem handle_edge_response {v : BitVec 2} (h : handle (decode (.edge v)) s = .next t) : t.response = s.response := by
  obtain hnone | ⟨l, hedge⟩ := decode_edge_cases v
  · rw [hnone] at h; cases h; rfl
  · rw [hedge] at h; exact event_gives_no_response (i := .edge l) rfl h

theorem handle_tick_response {v : BitVec 1} (h : handle (decode (.tick v)) s = .next t) : t.response = s.response := by
  obtain hnone | htick := decode_tick_cases v
  · rw [hnone] at h; cases h; rfl
  · rw [htick] at h; exact event_gives_no_response (i := .tick) rfl h

/-- The command of a cycle answers exactly when there is one, legal or reserved (R103, R104). -/
theorem handle_command_response {p : InPins} (hs : s.response = none) (h : handle p.command s = .next t) :
    t.response ≠ none ↔ p.command ≠ .noEvent := by
  obtain hnone | hreserved | ⟨i, hi, hop⟩ := command_cases p
  · rw [hnone] at h ⊢; cases h; simp [hs]
  · rw [hreserved] at h ⊢; cases h; simp
  · rw [hop] at h ⊢
    obtain ⟨r, hr, -⟩ := hostCommand_gives_response hi h
    simp [hr]

theorem responsePins_of_none (hs : s.response = none) : s.responsePins = (0#1, 0#3, 0#32) := by
  simp [State.responsePins, hs]

theorem responsePins_valid_iff (s : State) : s.responsePins.1 = 1#1 ↔ s.response ≠ none := by
  cases hr : s.response <;> simp [State.responsePins, hr]

/-- A cycle answers exactly when it carries a command and no `RESET` (R104, R238). -/
theorem step_response (s : State) :
    ∃ t, step s = .next t ∧ (t.response ≠ none ↔ s.samplePins.rst = 0#1 ∧ s.samplePins.command ≠ .noEvent) := by
  by_cases hreset : s.samplePins.rst = 1#1
  · exact ⟨_, step_of_reset hreset, by simp [hreset]⟩
  have hr := bit_eq_zero_of_ne_one hreset
  cases horder : s.params.edgeBeforeTick with
  | true =>
    obtain ⟨a, b, c, ha, hb, hc, hstep⟩ := step_edge_first horder hr
    have hb_none : b.response = none := (handle_tick_response hb).trans (handle_edge_response ha)
    exact ⟨_, hstep, by simpa [hr] using handle_command_response hb_none hc⟩
  | false =>
    obtain ⟨a, b, c, ha, hb, hc, hstep⟩ := step_tick_first horder hr
    have hb_none : b.response = none := (handle_edge_response hb).trans (handle_tick_response ha)
    exact ⟨_, hstep, by simpa [hr] using handle_command_response hb_none hc⟩

/-- Settles O44: operation by operation, the codes, and the pins after a cycle. -/
theorem responsesAreTheHostCommands : Obligations.ResponsesAreTheHostCommands := by
  refine ⟨fun i s => ?_, ⟨rfl, rfl, rfl, rfl, rfl⟩, fun s => ?_⟩
  · obtain ⟨t, h⟩ := exec_answers i s
    exact ⟨t, h, fun hi => hostCommand_gives_response hi h, fun hi => event_gives_no_response hi h⟩
  · obtain ⟨t, h, hiff⟩ := step_response s
    refine ⟨t, h, (responsePins_valid_iff t).trans hiff, fun hinvalid => ?_⟩
    by_cases hnone : t.response = none
    · exact responsePins_of_none hnone
    · rw [(responsePins_valid_iff t).mpr hnone] at hinvalid
      cases hinvalid

end Sys2Proof.Machine
end

section
/-! PROOFS. The invariants: every operation keeps those of the registers (R31, R32, R34), and every cycle keeps the Tick Source
enabled exactly in a capture (R236). -/

namespace Sys2Proof.Machine

variable {s t : State}

/-! The registers. -/

/-- Settles O48: each clause at the reset values. -/
theorem resetMeetsTheInvariant : Obligations.ResetMeetsTheInvariant := by
  have hregs : State.reset.RegInv := by constructor <;> decide
  exact ⟨hregs, by decide⟩

/-- The clauses on Configuration carry over; the two on the capture are left. -/
theorem State.RegInv.of_sameConfiguration (hs : s.RegInv) (hconfig : s.SameConfiguration t) (hparams : t.params = s.params)
    (hclear : t.bitCountdown = 0#7 → t.highTimeAccumulator = 0#32)
    (hle : t.bitCountdown.toNat ≤ 2 * s.expectedBits.toNat + 1) : t.RegInv := by
  obtain ⟨hbits, hlength, hsilence, hchannel⟩ := hconfig
  refine ⟨hclear, ?_, ?_, ?_, ?_, ?_, ?_, ?_⟩ <;> simp only [hbits, hlength, hsilence, hchannel, hparams]
  · exact hle
  · exact hs.bits_pos
  · exact hs.bits_le
  · exact hs.channel_legal
  · exact hs.length_eq
  · exact hs.silence_eq
  · exact hs.params_legal

theorem execEdge_regInv {l : Level} (hs : s.RegInv) (h : execEdge l s = .next t) : t.RegInv := by
  obtain ⟨hconfig, ⟨-, -, -, hparams, -⟩, -⟩ := execEdge_frame h
  obtain ⟨-, rfl⟩ | ⟨-, hcount, -⟩ := execEdge_arms_or_keeps h
  · exact hs.of_sameConfiguration hconfig hparams (fun hzero => absurd hzero (armCount_ne_zero _)) (armCount_toNat _).le
  · refine hs.of_sameConfiguration hconfig hparams (fun hidle => ?_) (hcount ▸ hs.countdown_le)
    rw [hcount] at hidle
    rw [execEdge_keeps_accumulator (.inr hidle) h, hs.idle_clear hidle]

/-- Every tick in a capture leaves the accumulator clear (R175, R176, R179). -/
theorem execTick_clears (hcapture : s.bitCountdown ≠ 0#7) (h : execTick s = .next t) : t.highTimeAccumulator = 0#32 := by
  obtain ⟨hidle, -⟩ | ⟨-, -, -, rfl⟩ | ⟨-, -, -, rfl⟩ | ⟨-, -, -, rfl⟩ | ⟨-, -, rfl⟩ := execTick_cases h
  · exact absurd hidle hcapture
  all_goals rfl

theorem execTick_regInv (hs : s.RegInv) (h : execTick s = .next t) : t.RegInv := by
  by_cases hidle : s.bitCountdown = 0#7
  · cases (execTick_idle hidle).symm.trans h
    exact hs
  · obtain ⟨-, hconfig, ⟨-, -, -, hparams, -⟩, -⟩ := execTick_frame h
    refine hs.of_sameConfiguration hconfig hparams (fun _ => execTick_clears hidle h) ?_
    have hle := hs.countdown_le
    rw [execTick_countdown h]
    split <;> omega

theorem State.RegInv.respond (hs : s.RegInv) (st : Status) (d : Word) : (s.respond st d).RegInv :=
  hs.of_sameConfiguration ⟨rfl, rfl, rfl, rfl⟩ rfl hs.idle_clear hs.countdown_le

theorem State.RegInv.raise (hs : s.RegInv) (st : Status) : (s.raise st).RegInv := hs.respond st 0#32

/-- A legal setting of `CHANNEL_RESET` is a channel (D8, R32). -/
theorem channelReset_of_legal {p : Config.Params} (hp : p.legal = true) : p.channelReset = 1#2 ∨ p.channelReset = 2#2 := by
  simpa [Config.Params.legal] using hp

theorem resetRegisters_regInv (hs : s.RegInv) : s.resetRegisters.RegInv where
  idle_clear _ := rfl
  countdown_le := Nat.zero_le _
  bits_pos := by simp
  bits_le := by simp
  channel_legal := channelReset_of_legal hs.params_legal
  length_eq := rfl
  silence_eq := .inr (by simp)
  params_legal := hs.params_legal

/-- The silence that a legal `SET_EXPECTED_BITS` leaves is 0 or the formula value (R31, R136). -/
theorem recomputedSilence_cases (p : Config.Params) (held : Word) {n : Nat} (hn : n ≤ 32) :
    recomputedSilence p held n = 0#32 ∨ (recomputedSilence p held n).toNat = 38399 - 800 * n := by
  unfold recomputedSilence
  split
  · exact .inl rfl
  · exact .inr (postRxSilence_toNat hn)

theorem setBitCount_regInv {n : Nat} (hs : s.RegInv) (hidle : s.bitCountdown = 0#7) (h1 : 1 ≤ n) (h32 : n ≤ 32) :
    (s.setBitCount n).RegInv := by
  have hbits : (s.setBitCount n).expectedBits.toNat = n := by
    rw [setBitCount_expectedBits, BitVec.toNat_ofNat]
    omega
  refine ⟨hs.idle_clear, ?_, ?_, ?_, hs.channel_legal, ?_, ?_, hs.params_legal⟩ <;> rw [hbits]
  · simp [hidle]
  · exact h1
  · exact h32
  · exact packetLength_toNat h32
  · exact recomputedSilence_cases _ _ h32

theorem setSilence_zero_regInv (hs : s.RegInv) : (s.setSilence 0#32).RegInv :=
  ⟨hs.idle_clear, hs.countdown_le, hs.bits_pos, hs.bits_le, hs.channel_legal, hs.length_eq, .inl rfl, hs.params_legal⟩

theorem setChannel_regInv {c : BitVec 2} (hs : s.RegInv) (hc : c = 1#2 ∨ c = 2#2) : (s.setChannel c).RegInv :=
  ⟨hs.idle_clear, hs.countdown_le, hs.bits_pos, hs.bits_le, hc, hs.length_eq, hs.silence_eq, hs.params_legal⟩

theorem exec_regInv {i : Instr} (hs : s.RegInv) (h : exec i s = .next t) : t.RegInv := by
  cases i with
  | reset => cases h; exact resetRegisters_regInv hs
  | edge l => exact execEdge_regInv hs h
  | tick => exact execTick_regInv hs h
  | checkData =>
    cases (execCheckData_eq s).symm.trans h
    exact hs.of_sameConfiguration ⟨rfl, rfl, rfl, rfl⟩ rfl hs.idle_clear hs.countdown_le
  | lastPacketStartTime => cases h; exact hs.respond _ _
  | switchChannel c =>
    obtain ⟨hlegal, rfl⟩ | ⟨-, -, rfl⟩ := execSwitchChannel_cases h
    · exact (setChannel_regInv hs (by rcases hlegal with rfl | rfl <;> decide)).respond _ _
    · exact hs.raise _
  | setExpectedBits n =>
    obtain ⟨-, rfl⟩ | ⟨-, -, -, rfl⟩ | ⟨h1, h32, hidle, rfl⟩ := execSetExpectedBits_cases h
    · exact hs.raise _
    · exact hs.raise _
    · exact (setBitCount_regInv hs hidle h1 h32).respond _ _
  | suppressPostRxSilence => cases h; exact (setSilence_zero_regInv hs).respond _ _

/-- Settles O49: the operation is answered, and what it writes meets the clauses. -/
theorem everyOperationKeepsTheRegisterInvariant : Obligations.EveryOperationKeepsTheRegisterInvariant := by
  intro i s hs
  obtain ⟨t, h⟩ := exec_answers i s
  exact ⟨t, h, exec_regInv hs h⟩

/-- A tick writes no raw position past its capture's slots: a later tick finds at most the slot count. -/
theorem execTick_high_raw {p : Nat} (hs : s.RegInv) (hp : 2 * s.expectedBits.toNat ≤ p) (h : execTick s = .next t) :
    t.raw p = s.raw p := by
  have hle := hs.countdown_le
  have hbits := hs.bits_le
  have hslot (hcapture : s.bitCountdown ≠ 0#7) (hlater : s.bitCountdown.toNat ≠ 2 * s.expectedBits.toNat + 1) :
      t.raw p = s.raw p := by
    have hbits_pos := hs.bits_pos
    rw [execTick_raw hcapture hlater (by omega) h, if_neg (by omega)]
  obtain ⟨-, rfl⟩ | ⟨-, -, -, rfl⟩ | ⟨-, -, -, rfl⟩ | ⟨hcapture, hlater, -⟩ | ⟨hlast, hlater, -⟩ := execTick_cases h
  · rfl
  · exact raw_congr (by simp) p
  · exact raw_congr (by simp) p
  · exact hslot hcapture hlater
  · exact hslot (by simp [hlast]) hlater

/-- Settles O51: only a tick writes raw positions, and none of these. -/
theorem highRawPositionsAreNotWritten : Obligations.HighRawPositionsAreNotWritten := by
  intro i s t p hs hr h hp
  cases i with
  | reset => exact absurd rfl hr
  | edge l => exact raw_congr (execEdge_samePublished h).1 p
  | tick => exact execTick_high_raw hs hp h
  | checkData | lastPacketStartTime | switchChannel | setExpectedBits | suppressPostRxSilence =>
    exact raw_congr (hostCommand_frame rfl h).2.1 p

/-! The Tick Source actions. -/

/-- Above the count 1 a tick leaves a capture in progress. -/
theorem countdown_pred_ne_zero {c : BitVec 7} (hc : 1 < c.toNat) : c - 1#7 ≠ 0#7 := by
  have hpred := countdown_pred_toNat (c := c) (by rintro rfl; simp at hc)
  intro hzero
  rw [hzero, BitVec.toNat_ofNat] at hpred
  omega

theorem one_lt_countdown {c : BitVec 7} (h0 : c ≠ 0#7) (h1 : c.toNat ≠ 1) : 1 < c.toNat := by
  have hpos : c.toNat ≠ 0 := fun hzero => h0 (BitVec.eq_of_toNat_eq hzero)
  omega

/-- The actions of an `EDGE` (R110). -/
theorem execEdge_tsActions {l : Level} (hnone : s.tsActions = TsActions.none) (h : execEdge l s = .next t) :
    t.tsActions =
      if s.bitCountdown = 0#7 ∧ t.bitCountdown ≠ 0#7 then ⟨true, some 800#16, true, false⟩ else TsActions.none := by
  obtain ⟨⟨hidle, -, -⟩, rfl⟩ | ⟨-, hcount, hkeeps⟩ := execEdge_arms_or_keeps h
  · rw [if_pos ⟨hidle, armCount_ne_zero _⟩, arm_tsActions, observeEdge_tsActions, hnone]
    rfl
  · rw [if_neg fun harmed => harmed.2 (hcount.trans harmed.1), hkeeps, hnone]

/-- The actions of a `TICK` (R110). -/
theorem execTick_tsActions (hs : s.RegInv) (hnone : s.tsActions = TsActions.none) (h : execTick s = .next t) :
    t.tsActions =
      if s.bitCountdown = 0#7 then TsActions.none
      else if t.bitCountdown = 0#7 then ⟨false, none, false, true⟩
      else if s.bitCountdown.toNat = 2 * s.expectedBits.toNat + 1 then ⟨false, some 400#16, false, false⟩
      else TsActions.none := by
  have hbits_pos := hs.bits_pos
  obtain ⟨hidle, rfl⟩ | ⟨hcapture, hfirst, -, rfl⟩ | ⟨hcapture, -, -, rfl⟩ | ⟨hcapture, hlater, hnotLast, rfl⟩ |
    ⟨hlast, -, rfl⟩ := execTick_cases h
  · rw [if_pos hidle, hnone]
  · have hgoesOn : s.bitCountdown - 1#7 ≠ 0#7 := countdown_pred_ne_zero (by omega)
    simp [hcapture, hgoesOn, hfirst, hnone, TsActions.none, Config.dataTickUs]
  · simp [hcapture, hnone, TsActions.none]
  · have hgoesOn : s.bitCountdown - 1#7 ≠ 0#7 := countdown_pred_ne_zero (one_lt_countdown hcapture hnotLast)
    simp [hcapture, hgoesOn, hlater, hnone]
  · simp [hlast, hnone, TsActions.none]

/-- Settles O52: `RESET` disables; the host commands assert nothing. -/
theorem tickSourceActionsAreTheTable : Obligations.TickSourceActionsAreTheTable := by
  intro i s t hs hnone h
  cases i with
  | reset => cases h; simp [hnone, TsActions.none]
  | edge l => exact execEdge_tsActions hnone h
  | tick => exact execTick_tsActions hs hnone h
  | checkData | lastPacketStartTime | switchChannel | setExpectedBits | suppressPostRxSilence =>
    exact (hostCommand_frame rfl h).2.2.2.trans hnone

/-! The cycle. -/

/-- The invariant within a cycle: the Tick Source, with the actions asserted so far, is enabled exactly in a capture. -/
structure State.MidInv (s : State) : Prop where
  regs : s.RegInv
  ticking : (s.tickSource.apply s.tsActions).enabled = true ↔ s.bitCountdown ≠ 0#7

/-- Within a cycle, once the Tick Source is disabled no `EDGE` arms: an abort and a publication leave too little time elapsed. -/
def State.NoRearm (s : State) : Prop := s.tsActions.disable = true → ¬ s.postRxSilenceMicros < s.elapsed

theorem noRearm_of_stamped (hstamp : s.referenceTime = s.now) : s.NoRearm := by
  intro _ hpassed
  rw [State.elapsed, hstamp, BitVec.sub_self] at hpassed
  exact BitVec.not_lt_zero hpassed

/-- The invariant carries over where neither the countdown nor the Tick Source's prospects change. -/
theorem State.MidInv.of_same (hs : s.MidInv) (hregs : t.RegInv) (hcount : t.bitCountdown = s.bitCountdown)
    (hsource : t.tickSource = s.tickSource) (hactions : t.tsActions = s.tsActions) : t.MidInv :=
  ⟨hregs, by rw [hsource, hactions, hcount]; exact hs.ticking⟩

theorem execEdge_midInv {l : Level} (hs : s.MidInv) (hno : s.NoRearm) (h : execEdge l s = .next t) :
    t.MidInv ∧ t.NoRearm := by
  have hregs := execEdge_regInv hs.regs h
  obtain ⟨-, ⟨hnow, hsource, -⟩, -⟩ := execEdge_frame h
  refine ⟨?_, noRearm_of_stamped ((execEdge_stamps h).1.trans hnow.symm)⟩
  obtain ⟨⟨-, -, hpassed⟩, rfl⟩ | ⟨-, hcount, hactions⟩ := execEdge_arms_or_keeps h
  · have hdisable : s.tsActions.disable = false := Bool.eq_false_iff.mpr fun hdisable => hno hdisable hpassed
    refine ⟨hregs, iff_of_true ?_ (armCount_ne_zero _)⟩
    simp [apply_enabled, hdisable]
  · exact hs.of_same hregs hcount hsource hactions

theorem execTick_midInv (hs : s.MidInv) (hno : s.NoRearm) (h : execTick s = .next t) : t.MidInv ∧ t.NoRearm := by
  have hregs := execTick_regInv hs.regs h
  have hbits_pos := hs.regs.bits_pos
  have hticking := hs.ticking
  rw [apply_enabled] at hticking
  obtain ⟨-, rfl⟩ | ⟨hcapture, hfirst, -, rfl⟩ | ⟨-, -, -, rfl⟩ | ⟨hcapture, -, hnotLast, rfl⟩ | ⟨hlast, -, rfl⟩ :=
    execTick_cases h
  · exact ⟨hs, hno⟩
  · have hgoesOn : s.bitCountdown - 1#7 ≠ 0#7 := countdown_pred_ne_zero (by omega)
    refine ⟨⟨hregs, iff_of_true ?_ (by simpa using hgoesOn)⟩, noRearm_of_stamped (by simp)⟩
    simpa [apply_enabled] using hticking.mpr hcapture
  · refine ⟨⟨hregs, by simp [apply_enabled]⟩, fun _ hpassed => ?_⟩
    simp [State.elapsed] at hpassed
  · have hgoesOn : s.bitCountdown - 1#7 ≠ 0#7 := countdown_pred_ne_zero (one_lt_countdown hcapture hnotLast)
    refine ⟨⟨hregs, iff_of_true ?_ (by simpa using hgoesOn)⟩, noRearm_of_stamped (by simp)⟩
    simpa [apply_enabled] using hticking.mpr hcapture
  · exact ⟨⟨hregs, by simp [apply_enabled, hlast]⟩, noRearm_of_stamped (by simp)⟩

theorem handle_edge_midInv {v : BitVec 2} (hs : s.MidInv) (hno : s.NoRearm) (h : handle (decode (.edge v)) s = .next t) :
    t.MidInv ∧ t.NoRearm := by
  obtain hnone | ⟨l, hedge⟩ := decode_edge_cases v
  · rw [hnone] at h; cases h; exact ⟨hs, hno⟩
  · rw [hedge] at h; exact execEdge_midInv hs hno h

theorem handle_tick_midInv {v : BitVec 1} (hs : s.MidInv) (hno : s.NoRearm) (h : handle (decode (.tick v)) s = .next t) :
    t.MidInv ∧ t.NoRearm := by
  obtain hnone | htick := decode_tick_cases v
  · rw [hnone] at h; cases h; exact ⟨hs, hno⟩
  · rw [htick] at h; exact execTick_midInv hs hno h

/-- A command may suppress the silence, but no `EDGE` of the cycle comes after it. -/
theorem handle_command_midInv {p : InPins} (hs : s.MidInv) (h : handle p.command s = .next t) : t.MidInv := by
  obtain hnone | hreserved | ⟨i, hi, hop⟩ := command_cases p
  · rw [hnone] at h; cases h; exact hs
  · rw [hreserved] at h; cases h; exact hs.of_same (hs.regs.raise _) rfl rfl rfl
  · rw [hop] at h
    obtain ⟨⟨hcount, -⟩, -, ⟨-, hsource, -⟩, hactions⟩ := hostCommand_frame hi h
    exact hs.of_same (exec_regInv hs.regs h) hcount hsource hactions

theorem countedTickSource_enabled (s : State) : s.countedTickSource.enabled = s.tickSource.enabled := by
  cases hnext : s.nextInput with
  | pins p => rw [countedTickSource_of_nextInput_pins hnext]
  | line rst l c => rw [countedTickSource_of_line hnext, count_enabled]

/-- The start of a cycle touches no register. -/
theorem beginCycle_regInv (hs : s.RegInv) : s.beginCycle.RegInv :=
  hs.of_sameConfiguration ⟨rfl, rfl, rfl, rfl⟩ rfl hs.idle_clear hs.countdown_le

theorem beginCycle_midInv (hs : s.Inv) : s.beginCycle.MidInv ∧ s.beginCycle.NoRearm := by
  refine ⟨⟨beginCycle_regInv hs.regs, ?_⟩, fun hdisable => by cases hdisable⟩
  rw [beginCycle_tsActions, apply_none, beginCycle_tickSource, countedTickSource_enabled]
  exact hs.ticking

theorem endCycle_inv (hs : s.MidInv) : (s.endCycle 0#1).Inv :=
  ⟨hs.regs.of_sameConfiguration ⟨rfl, rfl, rfl, rfl⟩ rfl hs.regs.idle_clear hs.regs.countdown_le, hs.ticking⟩

/-- After a reset cycle the block is idle and the Tick Source disabled (R264, R280). -/
theorem endCycle_reset_inv (hs : s.RegInv) : (s.resetRegisters.endCycle 1#1).Inv := by
  have hregs := resetRegisters_regInv hs
  exact ⟨hregs.of_sameConfiguration ⟨rfl, rfl, rfl, rfl⟩ rfl hregs.idle_clear hregs.countdown_le, by
    simp [TickSource.atReset]⟩

/-- Settles O50: `RESET`, or the three events in either order, from the start of the cycle to its end. -/
theorem everyCycleKeepsTheInvariant : Obligations.EveryCycleKeepsTheInvariant := by
  intro s t hs h
  by_cases hreset : s.samplePins.rst = 1#1
  · cases (step_of_reset hreset).symm.trans h
    exact endCycle_reset_inv (beginCycle_regInv hs.regs)
  have hr := bit_eq_zero_of_ne_one hreset
  obtain ⟨hbegin, hno⟩ := beginCycle_midInv hs
  cases horder : s.params.edgeBeforeTick with
  | true =>
    obtain ⟨a, b, c, ha, hb, hc, hstep⟩ := step_edge_first horder hr
    cases hstep.symm.trans h
    obtain ⟨hs_a, hno_a⟩ := handle_edge_midInv hbegin hno ha
    exact endCycle_inv (handle_command_midInv (handle_tick_midInv hs_a hno_a hb).1 hc)
  | false =>
    obtain ⟨a, b, c, ha, hb, hc, hstep⟩ := step_tick_first horder hr
    cases hstep.symm.trans h
    obtain ⟨hs_a, hno_a⟩ := handle_tick_midInv hbegin hno ha
    exact endCycle_inv (handle_command_midInv (handle_edge_midInv hs_a hno_a hb).1 hc)

theorem phase_idle_iff (s : State) : s.phase = .idle ↔ s.bitCountdown = 0#7 := by
  unfold State.phase
  split_ifs <;> simp_all

/-- Settles O55: a Tick Source that ticks is enabled, and so the block is in a capture. -/
theorem platformTicksOnlyInACapture : Obligations.PlatformTicksOnlyInACapture := by
  intro s rst l c hs hline htick
  rw [samplePins_of_line hline] at htick
  have hticks : s.tickSource.ticks = true := (ofBool_eq_one_iff _).mp htick
  have henabled : s.tickSource.enabled = true := (Bool.and_eq_true_iff.mp hticks).1
  exact (phase_idle_iff s).not.mpr (hs.ticking.mp henabled)

end Sys2Proof.Machine
end
